-- ==== Sys2Proof/Word.lean ====
section
/-! DEFINITION. The words of the Cotmira M24: bytes, timebase values, and the numbers that name
lanes, originators and scopes (spec/00_scope.md, Numbering). -/

namespace Sys2Proof

/-- One byte of the station link or of a phone packet. -/
abbrev Byte := BitVec 8

/-- A timebase value (R20): a 32-bit count of microseconds. -/
abbrev Stamp := BitVec 32

/-- An originator, 0 to 7 (spec/00_scope.md, Numbering). -/
abbrev Originator := Fin 8

/-- A lane, 0 to 23 (spec/00_scope.md, Numbering). -/
abbrev LaneId := Fin 24

/-- A timer: idle (`none`), or running with this many microseconds left (DESIGN CHOICE log 2). -/
abbrev Timer := Option Nat

end Sys2Proof
end

