-- ==== Sys2Proof/Syntax.lean ====
section
/-! DEFINITION. The commands of the M24: one constructor per row of spec/opcode_table.json, with the
row's operands. A request carries what its frame carries: the originator, the lane byte, the tag and
the body as raw bytes, so that every refusal and every clamp of the request is the machine's work.
An event of a lane carries the lane and what the outside world showed. -/

namespace Sys2Proof

/-- A bulk endpoint as a phone's descriptors report it (R29): its maximum packet size, and the endpoint number
that its transactions name (PRESUMED log 29, of USB). -/
structure BulkEndpoint where
  number : BitVec 4
  size : Nat
deriving DecidableEq, Repr

/-- An interface as a phone's configuration descriptors report it (R29): its class, subclass and
protocol, and its bulk OUT and bulk IN endpoints. -/
structure Interface where
  cls : Byte
  subclass : Byte
  protocol : Byte
  outs : List BulkEndpoint
  ins : List BulkEndpoint
deriving DecidableEq, Repr

/-- How a control transfer of the ENUMERATING phase ended (R29). The last four are answers: the device
descriptor (how many configurations the phone reports), the assigned address, one configuration's
value (PRESUMED log 29) and interfaces, and the selected configuration. -/
inductive EnumResult where
  | nak
  | transportError
  | stall
  | unparsable
  | device (configurations : Nat)
  | addressed
  | configuration (value : Byte) (interfaces : List Interface)
  | selected
deriving DecidableEq, Repr

/-- How an OUT transaction ended (R36). -/
inductive OutResult where
  | accepted
  | nak
  | stall
  | transportError
deriving DecidableEq, Repr

/-- How an IN transaction ended (R36). A data packet carries its data toggle: `false` is DATA0, `true` is
DATA1 (PRESUMED log 23). -/
inductive InResult where
  | data (toggle : Bool) (bytes : List Byte)
  | nak
  | stall
  | transportError
deriving DecidableEq, Repr

/-- How a transaction of the identity exchange ended (R30): of the identity request on the OUT endpoint,
or of the read on the IN endpoint. -/
inductive IdentityResult where
  | request (r : OutResult)
  | read (r : InResult)
deriving DecidableEq, Repr

/-- How a control transfer that clears an endpoint's stall ended (R40). -/
inductive ClearResult where
  | cleared
  | stall
  | nak
  | transportError
deriving DecidableEq, Repr

/-- A command: one row of spec/opcode_table.json. -/
inductive Instr where
  -- reception (R4 to R6) and the request that names nothing (R9)
  | frameDiscarded (bytes : List Byte)
  | unknownRequest (o : Originator) (lane code tag : Byte) (body : List Byte)
  | outResume
  -- the station port (R1) and hard reset (R24)
  | setConfiguration
  | deconfigure
  | busReset
  | vbusLoss
  | vbusPresent
  | suspend
  | resume
  | hardReset
  -- the IN arbiter (R12 to R19)
  | frameBuild
  | inTransferDone
  | pacingTimerExpiry (o : Originator)
  -- device-scope requests
  | deviceStatus (o : Originator) (lane tag : Byte) (body : List Byte)
  | deviceReset (o : Originator) (lane tag : Byte) (body : List Byte)
  | configurePool (o : Originator) (lane tag : Byte) (body : List Byte)
  | setClassActions (o : Originator) (lane tag : Byte) (body : List Byte)
  | readClassActions (o : Originator) (lane tag : Byte) (body : List Byte)
  | openNotices (o : Originator) (lane tag : Byte) (body : List Byte)
  | closeNotices (o : Originator) (lane tag : Byte) (body : List Byte)
  | setPacing (o : Originator) (lane tag : Byte) (body : List Byte)
  | startStrokes (o : Originator) (lane tag : Byte) (body : List Byte)
  | deviceSense (o : Originator) (lane tag : Byte) (body : List Byte)
  -- lane-scope requests
  | claimLane (o : Originator) (lane tag : Byte) (body : List Byte)
  | yieldLane (o : Originator) (lane tag : Byte) (body : List Byte)
  | breakClaim (o : Originator) (lane tag : Byte) (body : List Byte)
  | laneStatus (o : Originator) (lane tag : Byte) (body : List Byte)
  | laneSense (o : Originator) (lane tag : Byte) (body : List Byte)
  | laneIdentity (o : Originator) (lane tag : Byte) (body : List Byte)
  | setLaneOptions (o : Originator) (lane tag : Byte) (body : List Byte)
  | laneReset (o : Originator) (lane tag : Byte) (body : List Byte)
  | sendPacket (o : Originator) (lane tag : Byte) (body : List Byte)
  | resumeSend (o : Originator) (lane tag : Byte) (body : List Byte)
  | flushLane (o : Originator) (lane tag : Byte) (body : List Byte)
  | linkReset (o : Originator) (lane tag : Byte) (body : List Byte)
  | setLink (o : Originator) (lane tag : Byte) (body : List Byte)
  | supply (o : Originator) (lane tag : Byte) (body : List Byte)
  | setTrip (o : Originator) (lane tag : Byte) (body : List Byte)
  | armWindow (o : Originator) (lane tag : Byte) (body : List Byte)
  | cancelWindow (o : Originator) (lane tag : Byte) (body : List Byte)
  | readWindow (o : Originator) (lane tag : Byte) (body : List Byte)
  | queueStrokes (o : Originator) (lane tag : Byte) (body : List Byte)
  | stopStrokes (o : Originator) (lane tag : Byte) (body : List Byte)
  | setStrokeTiming (o : Originator) (lane tag : Byte) (body : List Byte)
  | setLamp (o : Originator) (lane tag : Byte) (body : List Byte)
  | keepPhone (o : Originator) (lane tag : Byte) (body : List Byte)
  -- the line of a lane port (R25) and the attach (R29 to R33)
  | lineStateChange (l : LaneId) (shows : Bool)
  | connectDetection (l : LaneId)
  | disconnectDetection (l : LaneId)
  | portResetEnd (l : LaneId) (highSpeed : Bool)
  | enumerationTransferDone (l : LaneId) (r : EnumResult)
  | attachRetryExpiry (l : LaneId)
  | identityTransactionDone (l : LaneId) (r : IdentityResult)
  | identityReadTimeout (l : LaneId)
  | attachTimerExpiry (l : LaneId)
  -- the OUT engine, stall clearing and the IN engine (R38 to R43)
  | sendStart (l : LaneId)
  | outTransactionDone (l : LaneId) (r : OutResult)
  | sendTimerExpiry (l : LaneId)
  | retryWaitEnd (l : LaneId)
  | stallClearingDone (l : LaneId) (r : ClearResult)
  | stallClearingRetry (l : LaneId)
  | pollIssue (l : LaneId)
  | inTransactionDone (l : LaneId) (r : InResult)
  | pollNakTimeout (l : LaneId)
  | pollWaitEnd (l : LaneId)
  -- the collector, the supply monitor, the stroke unit, the nest and lamp unit
  | packTimerExpiry (l : LaneId)
  | sampleEvent (l : LaneId) (sample : Fin 4096)
  | startInstant (l : LaneId)
  | stepEnd (l : LaneId)
  | releaseGapEnd (l : LaneId)
  | retractEnd (l : LaneId)
  | nestInputChange (l : LaneId) (seated : Bool)
  | nestQualificationEnd (l : LaneId)
  | activityTimerExpiry (l : LaneId)
  -- the end of a hard reset (R24) and a data packet of the OUT pipe (R4)
  | hardResetRelease
  | outDataPacket (bytes : List Byte)
deriving DecidableEq, Repr

end Sys2Proof
end

