-- ==== Sys2Proof/Config.lean ====
section
/-! DEFINITION. The fixed figures of the M24, each from the rule that states it. The spec leaves no
value free, so there is no opaque constant here. -/

namespace Sys2Proof.Config

/-- Entries of the reply store (R7). -/
def replyEntries : Nat := 448
/-- The longest frame body (R5). -/
def maxBody : Nat := 4096
/-- The packet size of both station pipes (section 1.1). -/
def pipePacket : Nat := 512
/-- Cells of the packet memory (R49). -/
def cells : Nat := 2048
/-- Lanes (spec/00_scope.md). -/
def lanes : Nat := 24
/-- Send records that one send queue holds (R66). -/
def sendQueueMax : Nat := 16
/-- Steps that one stroke queue holds (R146). -/
def strokeQueueMax : Nat := 16
/-- The pool enters squeeze below this many shared free cells (R59). -/
def squeezeBelow : Nat := 9
/-- The pool leaves squeeze at this many shared free cells (R59). -/
def reliefAt : Nat := 27
/-- Connect qualification, 100 ms (R25). -/
def connectQualUs : Nat := 100000
/-- Reset signalling of an attach, 50 ms (R29). -/
def portResetUs : Nat := 50000
/-- The device address of every attach (section 2.1). -/
def phoneAddress : BitVec 7 := 1
/-- The identity request, a phone packet of one byte (R30). -/
def identityRequest : List Byte := [0xF0]
/-- Wait after a transport error of a control transfer or of the identity request, 1 ms (R29, R30, R40). -/
def errorRetryUs : Nat := 1000
/-- The NAK wait of a read, 125 µs (R30, R42, R43). -/
def nakWaitUs : Nat := 125
/-- RETRY_WAIT, 1 ms (R39). -/
def retryWaitUs : Nat := 1000
/-- The IN engine hands over this many bytes of a packet at most (R42). -/
def handOver : Nat := 1024
/-- The IN engine ends a packet at this many bytes (R42). -/
def packetCut : Nat := 2048
/-- Spacing of the converter's samples, 250 µs (R132). -/
def sampleUs : Nat := 250
/-- The retract time of the plungers, 15 ms (R145). -/
def retractUs : Nat := 15000
/-- Nest qualification, 20 ms (R157). -/
def nestQualUs : Nat := 20000
/-- The activity timer, 50 ms (R162). -/
def activityUs : Nat := 50000
/-- The part's revision, as DEVICE_STATUS reports it (R21). -/
def revision : Nat := 1

end Sys2Proof.Config
end

