-- ==== Sys2Proof/Machine/State.lean ====
section
/-! DEFINITION. The state of the M24 as plain data: every piece of state that the spec gives a block, each under
the block that owns it (spec/00_scope.md, The blocks), the queue of waiting commands, the reasons a step can
stop, and the state right after reset. -/

namespace Sys2Proof.Machine

/-! ### Station link -/

/-- The station port's state (R1). Suspension is a flag of its own. -/
inductive PortState where
  | detached
  | unconfigured
  | configured
deriving DecidableEq, Repr

/-- The four phases of reception (R4). -/
inductive RxPhase where
  | hunt
  | header
  | body
  | crc
deriving DecidableEq, Repr

/-- The OUT side (R4 to R6): whether a frame has been begun, the phase, the bytes of the frame in progress
from its marker on (in HUNT none, or a possible first marker byte), and the receive buffer's bytes not yet
taken. -/
structure Rx where
  begun : Bool
  phase : RxPhase
  got : List Byte
  buf : List Byte
deriving DecidableEq, Repr

/-- Reception in HUNT with the receive buffer empty and no frame begun (R24). -/
def Rx.idle : Rx := ⟨false, .hunt, [], []⟩

/-- A reply status (R113). -/
inductive Status where
  | good
  | check
  | conflict
deriving DecidableEq, Repr

/-- A READY reply entry (R7): whose reply it is, what it answers, its status and its body. -/
structure Reply where
  originator : Originator
  lane : Byte
  code : Byte
  tag : Byte
  status : Status
  body : List Byte
deriving DecidableEq, Repr

/-- One entry of a notice accumulator (R17): the event set and the first-event time. -/
structure NoticeEntry where
  events : BitVec 16
  first : Stamp
deriving DecidableEq, Repr

/-- A packet record of an upstream queue (R83). Its length and its cells are those of its data (R50). -/
structure PacketRecord where
  data : List Byte
  seq : BitVec 16
  epoch : BitVec 16
  damaged : Bool
  urgent : Bool
  firstInEpoch : Bool
  dropsBefore : Nat
deriving DecidableEq, Repr

/-- A built station frame in a frame slot (R12, R13). A notice keeps its entries with their place (lanes 0 to
23, and 24 for the device), in ascending order. -/
inductive Frame where
  | reply (r : Reply)
  | notice (dest : Originator) (entries : List (Fin 25 × NoticeEntry))
  | dataUp (dest : Originator) (lane : LaneId) (records : List PacketRecord)
deriving DecidableEq, Repr

/-- What the station link keeps per originator (section 1.7): the notice mask with its watch flag, the pacing
interval in units of 100 µs, the pacing timer, and the accumulator (places 0 to 23 for the lanes, 24 for the
device). -/
structure OriginatorState where
  mask : BitVec 16
  watch : Bool
  interval : Nat
  pacing : Timer
  accumulator : Vector (Option NoticeEntry) 25
deriving DecidableEq, Repr

/-! ### Conditions and sense records -/

/-- The conditions of R115, each with its residual where the table gives one. -/
inductive Cond where
  | sendRetried (retries : Nat)
  | linkNotUp (stateCode : Nat)
  | downFull (free : Nat)
  | poolInUse
  | nestEmpty (lane : Option Nat)
  | tripLatched
  | windowStaged
  | strokeQueueFull (free : Nat)
  | strokesBusy (lane : Nat)
  | linkDisabled
  | unknownRequest
  | badLane
  | badLength
  | badField
  | poolSplit (largest : Nat)
  | flushed
  | chainBroken (position : Nat)
  | laneReset
  | upstreamOverrun (seq : Nat)
  | sendStalled (cancelled : Nat)
  | sendTimeout (cancelled : Nat)
  | pollStalled
  | linkLost
  | attachFailed (reason : Nat)
  | transportErrors (engine : Nat)
  | overcurrent (sample : Nat)
  | nestEmptiedStroking
  | removedWhileKept
deriving DecidableEq, Repr

/-- A condition as a sense record holds it (R116): with its recording time and, in a lane record, the
recording epoch. -/
structure Held where
  cond : Cond
  time : Stamp
  epoch : Option (BitVec 16)
deriving DecidableEq, Repr

/-- A sense record (R116): the condition it holds (none is key NONE), the further count, and the attention
causes as bits (R125; always empty in a device record). -/
structure Sense where
  held : Option Held
  further : Nat
  causes : BitVec 8
deriving DecidableEq, Repr

/-! ### Lane link and send queue -/

/-- A send record (R66). Its reply entry is the one its sender, lane and tag name, RESERVED while the record
lives; its length and cells are those of its data. -/
structure SendRecord where
  sender : Originator
  tag : Byte
  chain : Bool
  data : List Byte
  epoch : BitVec 16
deriving DecidableEq, Repr

/-- The send in flight (R38, R39): its record, the attempt number, how many data packets the phone has
accepted, and the send timeout (ms) in force for this attempt. -/
structure Flight where
  record : SendRecord
  attempt : Nat
  accepted : Nat
  timeout : Nat
deriving DecidableEq, Repr

/-- The OUT engine (R38): SENDING with the send timer's µs left, RETRY_WAIT with the wait's µs left. -/
inductive OutEngine where
  | idle
  | sending (f : Flight) (left : Nat)
  | retryWait (f : Flight) (left : Nat)
deriving DecidableEq, Repr

/-- A phone packet being read (R42): its first 1024 bytes so far, how many bytes the phone has sent, and the
timer that runs once data have begun. -/
structure Poll where
  bytes : List Byte
  count : Nat
  nakTimer : Timer
deriving DecidableEq, Repr

/-- A packet of which nothing has been read. -/
def Poll.fresh : Poll := ⟨[], 0, none⟩

/-- The IN engine (R41 to R43). POLL_WAIT holds the µs left and, after a transport error, the poll that it
goes on with (R42). Where the poll conditions have failed at the end of that wait, the engine is IDLE, and the poll under
way goes on in it (R41, R58, DEDUCED log 12). -/
inductive InEngine where
  | idle (underWay : Option Poll)
  | polling (p : Poll)
  | pollWait (left : Nat) (resume : Option Poll)
deriving DecidableEq, Repr

/-- The two bulk endpoints of the diagnostic function. -/
inductive Endpoint where
  | out
  | inn
deriving DecidableEq, Repr

/-- The diagnostic function of a phone as the enumeration found it (R29): the value of the configuration that
holds it, and the numbers of its bulk OUT and bulk IN endpoints (PRESUMED log 29). -/
structure DiagFunction where
  configuration : Byte
  outEndpoint : BitVec 4
  inEndpoint : BitVec 4
deriving DecidableEq, Repr

/-- The step of ENUMERATING that is under way (R29): the device descriptor, the address (with the number of
configurations the phone reports), configuration descriptor `index`, or the selection of the configuration
that holds the function found. -/
inductive EnumStage where
  | device
  | address (configurations : Nat)
  | configuration (index configurations : Nat)
  | select (found : DiagFunction)
deriving DecidableEq, Repr

/-- The step of IDENTIFYING that is under way (R30). -/
inductive IdentStage where
  | request
  | reading (p : Poll)
deriving DecidableEq, Repr

/-- The attach phases (R29). `retry` is the wait before a transfer is repeated. -/
inductive AttachPhase where
  | resetting (left : Nat)
  | enumerating (stage : EnumStage) (retry : Timer)
  | identifying (stage : IdentStage) (retry : Timer)
deriving DecidableEq, Repr

/-- An attach under way: the attach timer's µs left and the phase. -/
structure Attach where
  left : Nat
  phase : AttachPhase
deriving DecidableEq, Repr

/-- The six link states (R26). -/
inductive LinkState where
  | disabled
  | vacant
  | waiting
  | attaching (a : Attach)
  | up
  | failed
deriving DecidableEq, Repr

/-- The stored identity record (R31). An absent label is the empty list. -/
structure Identity where
  model : BitVec 16
  agent : BitVec 16
  serial : List Byte
  label : List Byte
deriving DecidableEq, Repr

/-- A lane link (section 2): the link state; the raw line, its qualification and the connect present flag
(R25); epoch, identity and the settled speed; the phone's device address and the selected diagnostic function,
whose endpoints are the lane's OUT and IN endpoints (R29); the data toggle of the next packet on each of them
(R36); both engines; the endpoints whose stall is to be cleared, in the order their STALLs were taken, with the
wait before a clearing is repeated (R40); and the two counts. -/
structure Link where
  state : LinkState
  line : Bool
  connectQual : Timer
  connectPresent : Bool
  epoch : BitVec 16
  identity : Option Identity
  highSpeed : Bool
  address : BitVec 7
  function : Option DiagFunction
  outToggle : Bool
  inToggle : Bool
  out : OutEngine
  inn : InEngine
  clearings : List Endpoint
  clearRetry : Timer
  errorCount : Nat
  recovered : Nat
deriving DecidableEq, Repr

/-- The thirteen lane options (R47), in the units of that table. -/
structure LaneOptions where
  attachLimit : Nat
  sendTimeout : Nat
  attemptLimit : Nat
  reportRecovered : Bool
  cap : Nat
  high : Nat
  low : Nat
  packTimer : Nat
  packThreshold : Nat
  priority : Bool
  promiscuous : Bool
  keepDamaged : Bool
  long : Bool
deriving DecidableEq, Repr

/-- The defaults of R47. -/
def LaneOptions.default : LaneOptions :=
  ⟨5000, 500, 4, false, 256, 64, 32, 0, 0, false, false, false, false⟩

/-- A send queue (R66): the records that wait, oldest first, and the send-halted flag. -/
structure SendQueue where
  queue : List SendRecord
  halted : Bool
deriving DecidableEq, Repr

/-! ### Collector, claims, supply, strokes, nest -/

/-- An action of the class table (R86). -/
inductive ClassAction where
  | deliver
  | discard
  | count
  | urgent
deriving DecidableEq, Repr

/-- What the collector keeps per lane (R83, R88, R91, R92, R99). -/
structure Upstream where
  queue : List PacketRecord
  packTimer : Timer
  eligible : Bool
  seq : BitVec 16
  firstPending : Bool
  drops : Nat
  damaged : BitVec 32
  counted : BitVec 32
deriving DecidableEq, Repr

/-- A HELD claim entry (R101). -/
structure Claim where
  holder : Originator
  beneficiary : Originator
  time : Stamp
deriving DecidableEq, Repr

/-- The supply states (R129). -/
inductive SupplyState where
  | off
  | on
  | tripped
deriving DecidableEq, Repr

/-- The supply sources (R129). -/
inductive Source where
  | bus
  | battery
deriving DecidableEq, Repr

/-- A window's trigger (R136). -/
inductive Trigger where
  | now
  | supplyOn
  | linkUp
  | strokeStep
deriving DecidableEq, Repr

/-- A window's parameters (R136); `rise` is the capture edge. -/
structure WindowParams where
  trigger : Trigger
  step : Nat
  delay : Nat
  length : Nat
  level : Nat
  rise : Bool
deriving DecidableEq, Repr

/-- The running figures of a measurement (R138). -/
structure Figures where
  samples : Nat
  sum : Nat
  minimum : Option Nat
  maximum : Option Nat
  capture : Option Nat
deriving DecidableEq, Repr

/-- The figures before the first measured sample. -/
def Figures.zero : Figures := ⟨0, 0, none, none, none⟩

/-- The active window place (R136). -/
inductive ActiveWindow where
  | idle
  | armed (p : WindowParams)
  | delaying (p : WindowParams) (skip : Nat)
  | measuring (p : WindowParams) (f : Figures)
  | done (p : WindowParams)
  | aborted (p : WindowParams)
deriving DecidableEq, Repr

/-- A last result (R139). -/
structure WindowResult where
  done : Bool
  length : Nat
  figures : Figures
  endTime : Stamp
deriving DecidableEq, Repr

/-- What the supply monitor keeps per lane (R129, R133, R136), and the µs left to the lane's next sample.
`blankPassed` says that a SET_TRIP has found the blanking passed since it began (R135, DEDUCED log 30). -/
structure Supply where
  state : SupplyState
  source : Source
  millivolts : Nat
  tripLevel : Nat
  tripCount : Nat
  blanking : Nat
  blankCount : Nat
  blankPassed : Bool
  tripRun : Nat
  active : ActiveWindow
  staged : Option WindowParams
  result : Option WindowResult
  nextSample : Timer
deriving DecidableEq, Repr

/-- A stroke step (R146). -/
structure Step where
  keyA : Bool
  keyB : Bool
  duration : Nat
  tie : Bool
deriving DecidableEq, Repr

/-- The stroke state (R145). RUNNING waits for its start instant, is in a step, or is in a release gap; each
holds the µs left. -/
inductive StrokeState where
  | idle
  | pending (instant : Stamp) (left : Nat)
  | step (current : Step) (left : Nat)
  | gap (left : Nat)
  | stopping (left : Nat)
deriving DecidableEq, Repr

/-- A STOP_STROKES reply held RESERVED (R154): its requester and tag, the stroke state code when it was
carried out, and the steps it cleared. -/
structure StopWait where
  originator : Originator
  tag : Byte
  former : Nat
  cleared : Nat
deriving DecidableEq, Repr

/-- What the stroke unit keeps per lane (R145, R146, R148, R154). -/
structure Strokes where
  state : StrokeState
  keyA : Bool
  keyB : Bool
  queue : List Step
  stepNumber : Nat
  lowArmed : Bool
  gap : Nat
  lowMark : Nat
  waiting : List StopWait
deriving DecidableEq, Repr

/-- A nest input (R157): `true` is seated. -/
structure Nest where
  raw : Bool
  seated : Bool
  qual : Timer
deriving DecidableEq, Repr

/-- The sources of a lamp (R161). -/
inductive LampSource where
  | off
  | on
  | linkUp
  | activity
  | held
  | condition
  | stroking
  | keep
  | supplyOn
  | tripped
deriving DecidableEq, Repr

/-- A lamp's settings (R161). -/
structure Lamp where
  source : LampSource
  invert : Bool
  blink : Bool
deriving DecidableEq, Repr

/-- Everything the M24 keeps for one lane (spec/00_scope.md, The resources of one lane). -/
structure LaneState where
  link : Link
  options : LaneOptions
  send : SendQueue
  upstream : Upstream
  occupancy : Nat
  flowHeld : Bool
  claim : Option Claim
  sense : Vector Sense 8
  supply : Supply
  strokes : Strokes
  nest : Nest
  lamp : Lamp
  keep : Bool
  activity : Timer
deriving DecidableEq, Repr

/-! ### The whole part -/

/-- The state of the M24 and the commands that wait. `transmitting` and `staged` are the two frame slots
(R12), `served` the arbiter's notice pointer (R13), `downCells` is D, `reserve` G and `downHeld` d (R49,
R51), `prioPointer`, `normPointer` and `runCount` the arbiter's values of R94. -/
structure State where
  port : PortState
  vbus : Bool
  hardReset : Bool
  suspended : Bool
  rx : Rx
  ready : List Reply
  transmitting : Option Frame
  staged : Option Frame
  originators : Vector OriginatorState 8
  served : Originator
  timebase : Stamp
  resetPending : Bool
  downCells : Nat
  reserve : Nat
  downHeld : Nat
  squeezed : Bool
  classes : Vector ClassAction 256
  prioPointer : LaneId
  normPointer : LaneId
  runCount : Nat
  deviceSense : Vector Sense 8
  lanes : Vector LaneState 24
  pending : List Instr
deriving DecidableEq, Repr

/-- The faults of the machine. -/
inductive Fault where
  /-- Raised by nothing: the spec gives every command an effect in every state (a refusal of the spec is a
  reply), so no step ends in a fault. Safe. -/
  | unreachable
deriving DecidableEq, Repr

/-- The refusals of the machine. -/
inductive Refusal where
  /-- Raised by an arm of `exec` whose command has no meaning yet; no arm is such. Safe. -/
  | notModelled (mnemonic : String)
deriving DecidableEq, Repr

/-! ### Reset -/

/-- An originator's part of the station link after a device reset (R24). -/
def OriginatorState.afterReset : OriginatorState :=
  { mask := 0, watch := false, interval := 0, pacing := none, accumulator := Vector.replicate 25 none }

/-- A lane's sense record after a device reset (R128): key NONE and cause DEVICE_RESET. -/
def Sense.afterReset : Sense := { held := none, further := 0, causes := 1 }

/-- A device sense record after a device reset (R128): no attention. -/
def Sense.empty : Sense := { held := none, further := 0, causes := 0 }

/-- A lane link after a device reset (R48). The raw line is a pin and keeps its level; where the part runs,
a line that shows a device starts its qualification (R25, DEDUCED log 7). No phone has an address, a function or a
toggle yet (PRESUMED log 29). -/
def Link.afterReset (line running : Bool) : Link :=
  { state := .vacant, line := line
    connectQual := if running && line then some Config.connectQualUs else none
    connectPresent := false, epoch := 0, identity := none, highSpeed := false
    address := 0, function := none, outToggle := false, inToggle := false
    out := .idle, inn := .idle none, clearings := [], clearRetry := none, errorCount := 0, recovered := 0 }

/-- The collector's part of a lane after a device reset (R100). -/
def Upstream.afterReset : Upstream :=
  { queue := [], packTimer := none, eligible := false, seq := 0, firstPending := false, drops := 0
    damaged := 0, counted := 0 }

/-- The supply monitor's part of a lane after a device reset (R144). -/
def Supply.afterReset (running : Bool) : Supply :=
  { state := .off, source := .bus, millivolts := 3800, tripLevel := 3000, tripCount := 4, blanking := 40
    blankCount := 0, blankPassed := false, tripRun := 0, active := .idle, staged := none, result := none
    nextSample := if running then some Config.sampleUs else none }

/-- The stroke unit's part of a lane after a device reset (R145, R148, R156). -/
def Strokes.afterReset : Strokes :=
  { state := .idle, keyA := false, keyB := false, queue := [], stepNumber := 0, lowArmed := false
    gap := 30, lowMark := 2, waiting := [] }

/-- A nest after a device reset (R157): debounced EMPTY; a raw input that reads seated starts its
qualification where the part runs. -/
def Nest.afterReset (raw running : Bool) : Nest :=
  { raw := raw, seated := false, qual := if running && raw then some Config.nestQualUs else none }

/-- A lane after a device reset, with its two pins as they stand. -/
def LaneState.afterReset (line raw running : Bool) : LaneState :=
  { link := Link.afterReset line running
    options := LaneOptions.default
    send := { queue := [], halted := false }
    upstream := Upstream.afterReset
    occupancy := 0, flowHeld := false
    claim := none
    sense := Vector.replicate 8 Sense.afterReset
    supply := Supply.afterReset running
    strokes := Strokes.afterReset
    nest := Nest.afterReset raw running
    lamp := { source := .linkUp, invert := false, blink := false }
    keep := false, activity := none }

/-- The machine right after reset: a hard reset has just ended with VBUS present, so the port is UNCONFIGURED
(R24), and every block is at its reset state. The pins (VBUS, lines, nests) are at the levels of DESIGN CHOICE log 6. -/
def State.reset : State :=
  { port := .unconfigured, vbus := true, hardReset := false, suspended := false
    rx := Rx.idle, ready := [], transmitting := none, staged := none
    originators := Vector.replicate 8 OriginatorState.afterReset
    served := 7, timebase := 0, resetPending := false
    downCells := 768, reserve := 16, downHeld := 0, squeezed := false
    classes := Vector.replicate 256 .deliver
    prioPointer := 23, normPointer := 23, runCount := 0
    deviceSense := Vector.replicate 8 Sense.empty
    lanes := Vector.replicate 24 (LaneState.afterReset false false true)
    pending := [] }

end Sys2Proof.Machine
end

