-- ==== Sys2Proof/Machine/Layout.lean ====
section
/-! DEFINITION. Byte layouts (spec/01 section 1.2 and the field lists of the requests): little-endian fields, the
frame CRC, station frames in both directions, the short sense, and the codes of states, conditions and events. -/

namespace Sys2Proof.Machine

/-! ### Fields -/

/-- A one-byte field. -/
def le8 (n : Nat) : List Byte := [BitVec.ofNat 8 n]
/-- A two-byte field, least significant byte first (spec/00, Byte order and layouts). -/
def le16 (n : Nat) : List Byte := [BitVec.ofNat 8 n, BitVec.ofNat 8 (n / 256)]
/-- A three-byte field. -/
def le24 (n : Nat) : List Byte := le16 n ++ le8 (n / 65536)
/-- A four-byte field. -/
def le32 (n : Nat) : List Byte := le16 n ++ le16 (n / 65536)
/-- A one-byte field that holds 0 or 1. -/
def leFlag (b : Bool) : List Byte := le8 b.toNat

/-- Byte `i` of a body as a number; 0 past its end. -/
def byteAt (body : List Byte) (i : Nat) : Nat := (body.getD i 0).toNat
/-- The two-byte field at byte `i` of a body. -/
def u16At (body : List Byte) (i : Nat) : Nat := byteAt body i + 256 * byteAt body (i + 1)
/-- The three-byte field at byte `i` of a body. -/
def u24At (body : List Byte) (i : Nat) : Nat := u16At body i + 65536 * byteAt body (i + 2)

/-- A number clamped to the range `lo` to `hi`. -/
def clamp (lo hi n : Nat) : Nat := max lo (min n hi)

/-! ### The frame CRC (R3) -/

/-- One bit of the CRC: generator polynomial 0x1021, most significant bit first. -/
def crcBit (c : BitVec 16) : BitVec 16 := if c.msb then (c <<< 1) ^^^ 0x1021#16 else c <<< 1

/-- One byte of the CRC. -/
def crcByte (c : BitVec 16) (b : Byte) : BitVec 16 :=
  crcBit (crcBit (crcBit (crcBit (crcBit (crcBit (crcBit (crcBit (c ^^^ (b.zeroExtend 16 <<< 8)))))))))

/-- R3: initial value 0xFFFF, no final inversion, no reflection. -/
def crc16 (bytes : List Byte) : BitVec 16 := bytes.foldl crcByte 0xFFFF#16

/-! ### Station frames -/

/-- Bytes 0 to the last body byte of a station frame. -/
def frameHead (kind originator lane code tag status : Byte) (body : List Byte) : List Byte :=
  [0x5A, 0xC3, kind, originator, lane, code, tag, status] ++ le16 body.length ++ body

/-- A whole station frame: its head and the CRC, low byte first (section 1.2). -/
def stationFrame (kind originator lane code tag status : Byte) (body : List Byte) : List Byte :=
  let head := frameHead kind originator lane code tag status body
  head ++ le16 (crc16 head).toNat

/-- What a REQUEST frame names (section 1.2). -/
structure Request where
  originator : Originator
  lane : Byte
  code : Byte
  tag : Byte
  body : List Byte
deriving DecidableEq, Repr

/-- The byte that names an originator. -/
def originatorByte (o : Originator) : Byte := BitVec.ofNat 8 o.val

/-- The byte that names a lane. -/
def laneByte (l : LaneId) : Byte := BitVec.ofNat 8 l.val

/-- The bytes of a REQUEST frame, with status byte 0 (section 1.2). -/
def requestFrame (rq : Request) : List Byte :=
  stationFrame 0x01 (originatorByte rq.originator) rq.lane rq.code rq.tag 0x00 rq.body

/-- The values of the status byte (R113). -/
def statusByte : Status → Byte
  | .good => 0
  | .check => 1
  | .conflict => 2

/-- The flags byte of a DATA_UP record (section 1.2). -/
def recordFlags (p : PacketRecord) : Byte :=
  BitVec.ofNat 8 (p.damaged.toNat + 2 * p.urgent.toNat + 4 * p.firstInEpoch.toNat)

/-- One packet record of a DATA_UP body: the 8-byte header and the data (section 1.2). -/
def recordBytes (p : PacketRecord) : List Byte :=
  le16 p.data.length ++ le16 p.seq.toNat ++ le16 p.epoch.toNat ++ [recordFlags p] ++ le8 p.dropsBefore
    ++ p.data

/-- The lane byte of an accumulator place: 0 to 23, or 255 for the device. -/
def placeByte (p : Fin 25) : Byte := if p.val = 24 then 255 else BitVec.ofNat 8 p.val

/-- One notice entry (section 1.2). -/
def noticeEntryBytes (e : Fin 25 × NoticeEntry) : List Byte :=
  [placeByte e.1] ++ le16 e.2.events.toNat ++ le32 e.2.first.toNat

/-- The body of a built frame (section 1.2). -/
def frameBody : Frame → List Byte
  | .reply r => r.body
  | .notice _ entries => le8 entries.length ++ (entries.map noticeEntryBytes).flatten
  | .dataUp _ _ records => (records.map recordBytes).flatten

/-- The bytes of a built frame, with the header fields of R3. -/
def frameBytes : Frame → List Byte
  | .reply r => stationFrame 0x81 (originatorByte r.originator) r.lane r.code r.tag (statusByte r.status) r.body
  | .notice dest entries => stationFrame 0x82 (originatorByte dest) 255 0 0 0 (frameBody (.notice dest entries))
  | .dataUp dest lane records =>
    stationFrame 0x83 (originatorByte dest) (laneByte lane) 0 0 0 (frameBody (.dataUp dest lane records))

/-- R2 cut into data packets, `n` whole packets first: 512 bytes each, and then the shorter one, which has no
bytes when the length is a whole multiple of 512. -/
def packetsOf : Nat → List Byte → List (List Byte)
  | 0, bytes => [bytes]
  | n + 1, bytes => bytes.take Config.pipePacket :: packetsOf n (bytes.drop Config.pipePacket)

/-- R2: the data packets of one IN transfer. -/
def transferPackets (bytes : List Byte) : List (List Byte) := packetsOf (bytes.length / Config.pipePacket) bytes

/-! ### Conditions (R114, R115) -/

/-- The key of a condition, which is also its rank (R114). -/
def Cond.key : Cond → Nat
  | .sendRetried _ => 1
  | .linkNotUp _ | .downFull _ | .poolInUse | .nestEmpty _ | .tripLatched | .windowStaged
  | .strokeQueueFull _ | .strokesBusy _ | .linkDisabled => 2
  | .unknownRequest | .badLane | .badLength | .badField | .poolSplit _ => 3
  | .flushed | .chainBroken _ | .laneReset => 4
  | .upstreamOverrun _ => 5
  | .sendStalled _ | .sendTimeout _ | .pollStalled => 6
  | .linkLost | .attachFailed _ | .transportErrors _ => 7
  | .overcurrent _ | .nestEmptiedStroking | .removedWhileKept => 8

/-- The code of a condition under its key (R115). -/
def Cond.code : Cond → Nat
  | .sendRetried _ => 1
  | .linkNotUp _ => 1
  | .downFull _ => 2
  | .poolInUse => 3
  | .nestEmpty _ => 4
  | .tripLatched => 5
  | .windowStaged => 6
  | .strokeQueueFull _ => 7
  | .strokesBusy _ => 8
  | .linkDisabled => 9
  | .unknownRequest => 1
  | .badLane => 2
  | .badLength => 3
  | .badField => 4
  | .poolSplit _ => 5
  | .flushed => 1
  | .chainBroken _ => 2
  | .laneReset => 3
  | .upstreamOverrun _ => 1
  | .sendStalled _ => 1
  | .sendTimeout _ => 2
  | .pollStalled => 3
  | .linkLost => 1
  | .attachFailed _ => 2
  | .transportErrors _ => 3
  | .overcurrent _ => 1
  | .nestEmptiedStroking => 2
  | .removedWhileKept => 3

/-- The residual of a condition, where R115 gives it one. -/
def Cond.residual : Cond → Option Nat
  | .sendRetried n | .linkNotUp n | .downFull n | .strokeQueueFull n | .strokesBusy n | .poolSplit n
  | .chainBroken n | .upstreamOverrun n | .sendStalled n | .sendTimeout n | .attachFailed n
  | .transportErrors n | .overcurrent n => some n
  | .nestEmpty lane => lane
  | .poolInUse | .tripLatched | .windowStaged | .linkDisabled | .unknownRequest | .badLane | .badLength
  | .badField | .flushed | .laneReset | .pollStalled | .linkLost | .nestEmptiedStroking
  | .removedWhileKept => none

/-- A residual field: 0xFFFF where there is none (section 1.2). -/
def residualBytes (r : Option Nat) : List Byte := le16 (r.getD 0xFFFF)

/-- The short sense of a CHECK reply (section 1.2). -/
def shortSense (c : Cond) : List Byte := le8 c.key ++ le8 c.code ++ residualBytes c.residual

/-- The short sense of CHECK ATTENTION: key 9, the cause set, and a residual (R11, R126, R127). -/
def attentionSense (causes : BitVec 8) (residual : Option Nat) : List Byte :=
  le8 9 ++ [causes] ++ residualBytes residual

/-- The short sense of a CONFLICT reply: key NONE, code 0 (R11). -/
def conflictSense (residual : Option Nat) : List Byte := le8 0 ++ le8 0 ++ residualBytes residual

/-! ### Attention causes (R125) -/

/-- Cause DEVICE_RESET. -/
def causeDeviceReset : BitVec 8 := 1
/-- Cause STATION_RESTART. -/
def causeStationRestart : BitVec 8 := 2
/-- Cause NEST_CHANGED. -/
def causeNestChanged : BitVec 8 := 4
/-- Cause PHONE_REATTACHED. -/
def causePhoneReattached : BitVec 8 := 8
/-- Cause CLAIM_BROKEN. -/
def causeClaimBroken : BitVec 8 := 16

/-! ### Event kinds (section 1.2, Event set) -/

/-- The fourteen event kinds. -/
inductive EventKind where
  | linkUp
  | linkDown
  | attachFailed
  | nestSeated
  | nestEmptied
  | overrun
  | sendHalted
  | supplyTripped
  | windowDone
  | strokesLow
  | strokesDone
  | claimBroken
  | poolSqueeze
  | poolRelief
deriving DecidableEq, Repr

/-- The bit of an event kind in an event set. -/
def EventKind.bit : EventKind → Nat
  | .linkUp => 0
  | .linkDown => 1
  | .attachFailed => 2
  | .nestSeated => 3
  | .nestEmptied => 4
  | .overrun => 5
  | .sendHalted => 6
  | .supplyTripped => 7
  | .windowDone => 8
  | .strokesLow => 9
  | .strokesDone => 10
  | .claimBroken => 11
  | .poolSqueeze => 12
  | .poolRelief => 13

/-- The event set of one kind. -/
def EventKind.set (k : EventKind) : BitVec 16 := 1#16 <<< k.bit

/-! ### Codes of states -/

/-- The code of a link state (R26). -/
def LinkState.code : LinkState → Nat
  | .disabled => 0
  | .vacant => 1
  | .waiting => 2
  | .attaching _ => 3
  | .up => 4
  | .failed => 5

/-- The code of the OUT engine's state (section 2.6). -/
def OutEngine.code : OutEngine → Nat
  | .idle => 0
  | .sending _ _ => 1
  | .retryWait _ _ => 2

/-- The code of the IN engine's state (section 2.7). -/
def InEngine.code : InEngine → Nat
  | .idle _ => 0
  | .polling _ => 1
  | .pollWait _ _ => 2

/-- The code of a supply state (R129). -/
def SupplyState.code : SupplyState → Nat
  | .off => 0
  | .on => 1
  | .tripped => 2

/-- The code of a supply source (R130). -/
def Source.code : Source → Nat
  | .bus => 0
  | .battery => 1

/-- The source that a byte names (R130). -/
def Source.ofCode : Nat → Option Source
  | 0 => some .bus
  | 1 => some .battery
  | _ => none

/-- The code of a window state (R136). -/
def ActiveWindow.code : ActiveWindow → Nat
  | .idle => 0
  | .armed _ => 1
  | .delaying _ _ => 2
  | .measuring _ _ => 3
  | .done _ => 4
  | .aborted _ => 5

/-- The code of a window trigger (R137). -/
def Trigger.code : Trigger → Nat
  | .now => 0
  | .supplyOn => 1
  | .linkUp => 2
  | .strokeStep => 3

/-- The trigger that a byte names (R137). -/
def Trigger.ofCode : Nat → Option Trigger
  | 0 => some .now
  | 1 => some .supplyOn
  | 2 => some .linkUp
  | 3 => some .strokeStep
  | _ => none

/-- The code of a stroke state (R145). -/
def StrokeState.code : StrokeState → Nat
  | .idle => 0
  | .pending _ _ | .step _ _ | .gap _ => 1
  | .stopping _ => 2

/-- The value of a lamp source (R161). -/
def LampSource.code : LampSource → Nat
  | .off => 0
  | .on => 1
  | .linkUp => 2
  | .activity => 3
  | .held => 4
  | .condition => 5
  | .stroking => 6
  | .keep => 7
  | .supplyOn => 8
  | .tripped => 9

/-- The lamp source that a byte names (R161). -/
def LampSource.ofCode : Nat → Option LampSource
  | 0 => some .off
  | 1 => some .on
  | 2 => some .linkUp
  | 3 => some .activity
  | 4 => some .held
  | 5 => some .condition
  | 6 => some .stroking
  | 7 => some .keep
  | 8 => some .supplyOn
  | 9 => some .tripped
  | _ => none

/-- The value of a class action (R86). -/
def ClassAction.code : ClassAction → Nat
  | .deliver => 0
  | .discard => 1
  | .count => 2
  | .urgent => 3

/-- The class action that a byte names (R86). -/
def ClassAction.ofCode : Nat → Option ClassAction
  | 0 => some .deliver
  | 1 => some .discard
  | 2 => some .count
  | 3 => some .urgent
  | _ => none

/-- The four bytes of a stroke step entry (R147). -/
def stepBytes (st : Step) : List Byte :=
  le8 (st.keyA.toNat + 2 * st.keyB.toNat) ++ le16 st.duration ++ leFlag st.tie

/-- The nine bytes of a window's parameters, in the order of R137. -/
def windowBytes (p : WindowParams) : List Byte :=
  le8 p.trigger.code ++ le8 p.step ++ le16 p.delay ++ le16 p.length ++ le16 p.level ++ leFlag (!p.rise)

end Sys2Proof.Machine
end

