-- ==== Sys2Proof/Machine/Ops.lean ====
section
/-! DEFINITION. The named operations that the meanings share: reading and changing one lane, the passing of
time, event offers, sense records, replies, claims, the counts of the packet memory. Each acts on the whole
state and leaves what it does not name as it is. -/

namespace Sys2Proof.Machine

/-- What a command answers. -/
abbrev Answer := Host.Outcome State Fault Refusal

/-! ### One lane, one originator -/

/-- The state of lane `l`. -/
def State.lane (s : State) (l : LaneId) : LaneState := s.lanes[l]

/-- Lane `l` becomes `v`. -/
def State.setLane (s : State) (l : LaneId) (v : LaneState) : State := { s with lanes := s.lanes.set l v }

/-- Lane `l` is changed by `f`. -/
def State.onLane (s : State) (l : LaneId) (f : LaneState → LaneState) : State := s.setLane l (f (s.lane l))

/-- Every lane is changed. -/
def State.onLanes (s : State) (f : LaneId → LaneState → LaneState) : State :=
  { s with lanes := Vector.ofFn fun i => f i s.lanes[i] }

/-- What the station link keeps for originator `o`. -/
def State.orig (s : State) (o : Originator) : OriginatorState := s.originators[o]

/-- Originator `o`'s part of the station link is changed by `f`. -/
def State.onOriginator (s : State) (o : Originator) (f : OriginatorState → OriginatorState) : State :=
  { s with originators := s.originators.set o (f (s.orig o)) }

/-- Every originator's part of the station link is changed. -/
def State.onOriginators (s : State) (f : Originator → OriginatorState → OriginatorState) : State :=
  { s with originators := Vector.ofFn fun i => f i s.originators[i] }

/-- Changes of one part of a lane. -/
def LaneState.onLink (L : LaneState) (f : Link → Link) : LaneState := { L with link := f L.link }
@[inherit_doc LaneState.onLink]
def LaneState.onUpstream (L : LaneState) (f : Upstream → Upstream) : LaneState := { L with upstream := f L.upstream }
@[inherit_doc LaneState.onLink]
def LaneState.onSupply (L : LaneState) (f : Supply → Supply) : LaneState := { L with supply := f L.supply }
@[inherit_doc LaneState.onLink]
def LaneState.onStrokes (L : LaneState) (f : Strokes → Strokes) : LaneState := { L with strokes := f L.strokes }
@[inherit_doc LaneState.onLink]
def LaneState.onSense (L : LaneState) (o : Originator) (f : Sense → Sense) : LaneState :=
  { L with sense := L.sense.set o (f L.sense[o]) }

/-! ### The passing of time (R20, DESIGN CHOICE log 2) -/

/-- A timer after `d` µs; one whose time has run out stays at 0 until its expiry is taken. -/
def passTimer (d : Nat) (t : Timer) : Timer := t.map (· - d)

/-- A packet being read, after `d` µs. -/
def Poll.pass (d : Nat) (p : Poll) : Poll := { p with nakTimer := passTimer d p.nakTimer }

/-- The OUT engine after `d` µs. -/
def OutEngine.pass (d : Nat) : OutEngine → OutEngine
  | .idle => .idle
  | .sending f left => .sending f (left - d)
  | .retryWait f left => .retryWait f (left - d)

/-- The IN engine after `d` µs. -/
def InEngine.pass (d : Nat) : InEngine → InEngine
  | .idle underWay => .idle (underWay.map (Poll.pass d))
  | .polling p => .polling (p.pass d)
  | .pollWait left resume => .pollWait (left - d) (resume.map (Poll.pass d))

/-- The step of IDENTIFYING after `d` µs. -/
def IdentStage.pass (d : Nat) : IdentStage → IdentStage
  | .request => .request
  | .reading p => .reading (p.pass d)

/-- An attach phase after `d` µs. -/
def AttachPhase.pass (d : Nat) : AttachPhase → AttachPhase
  | .resetting left => .resetting (left - d)
  | .enumerating stage retry => .enumerating stage (passTimer d retry)
  | .identifying stage retry => .identifying (stage.pass d) (passTimer d retry)

/-- A link state after `d` µs. -/
def LinkState.pass (d : Nat) : LinkState → LinkState
  | .disabled => .disabled
  | .vacant => .vacant
  | .waiting => .waiting
  | .attaching a => .attaching { left := a.left - d, phase := a.phase.pass d }
  | .up => .up
  | .failed => .failed

/-- A lane link after `d` µs. -/
def Link.pass (d : Nat) (k : Link) : Link :=
  { k with state := k.state.pass d, connectQual := passTimer d k.connectQual, out := k.out.pass d
           inn := k.inn.pass d, clearRetry := passTimer d k.clearRetry }

/-- A stroke state after `d` µs. -/
def StrokeState.pass (d : Nat) : StrokeState → StrokeState
  | .idle => .idle
  | .pending instant left => .pending instant (left - d)
  | .step current left => .step current (left - d)
  | .gap left => .gap (left - d)
  | .stopping left => .stopping (left - d)

/-- A lane after `d` µs: its timers run, and nothing else changes. -/
def LaneState.pass (d : Nat) (L : LaneState) : LaneState :=
  { L with
    link := L.link.pass d
    upstream := { L.upstream with packTimer := passTimer d L.upstream.packTimer }
    supply := { L.supply with nextSample := passTimer d L.supply.nextSample }
    strokes := { L.strokes with state := L.strokes.state.pass d }
    nest := { L.nest with qual := passTimer d L.nest.qual }
    activity := passTimer d L.activity }

/-- `d` µs pass: the timebase counts on, modulo 2^32 (R20), and every timer runs. -/
def State.advance (d : Nat) (s : State) : State :=
  { s with
    timebase := s.timebase + BitVec.ofNat 32 d
    originators := Vector.ofFn fun i => { s.originators[i] with pacing := passTimer d s.originators[i].pacing }
    lanes := Vector.ofFn fun i => (s.lanes[i]).pass d }

/-! ### Claims (R101) -/

/-- The lane is HELD. -/
def LaneState.isHeld (L : LaneState) : Bool := L.claim.isSome

/-- `o` is the lane's beneficiary. -/
def LaneState.benefits (L : LaneState) (o : Originator) : Bool :=
  match L.claim with
  | none => false
  | some c => c.beneficiary == o

/-- `o` is the lane's holder or its beneficiary. -/
def LaneState.concerns (L : LaneState) (o : Originator) : Bool :=
  match L.claim with
  | none => false
  | some c => c.holder == o || c.beneficiary == o

/-- R102, row "every other acting lane-scope request": the lane is FREE or serves `o`. -/
def LaneState.mayAct (L : LaneState) (o : Originator) : Bool := !L.isHeld || L.benefits o

/-! ### Events (R16, R17) -/

/-- The accumulator place of a lane. -/
def lanePlace (l : LaneId) : Fin 25 := ⟨l.val, by omega⟩

/-- The accumulator place of the device. -/
def devicePlace : Fin 25 := 24

/-- R17: the entry of a place after an event of kind `k` is gathered; an entry that exists keeps its first
time. -/
def gatherEntry (k : EventKind) (now : Stamp) : Option NoticeEntry → NoticeEntry
  | none => { events := k.set, first := now }
  | some e => { e with events := e.events ||| k.set }

/-- R17: an event that reaches an originator is gathered under its place. -/
def OriginatorState.gather (q : OriginatorState) (p : Fin 25) (k : EventKind) (now : Stamp) : OriginatorState :=
  { q with accumulator := q.accumulator.set p (some (gatherEntry k now q.accumulator[p])) }

/-- The kind is open in the originator's mask. -/
def OriginatorState.isOpen (q : OriginatorState) (k : EventKind) : Bool := q.mask &&& k.set != 0

/-- R16: a lane event reaches `o`. -/
def State.laneEventReaches (s : State) (k : EventKind) (l : LaneId) (o : Originator) : Bool :=
  (s.orig o).isOpen k && ((s.orig o).watch || (s.lane l).concerns o)

/-- R16, R17: a lane event is offered, at this moment and under this claim. -/
def State.offerLane (k : EventKind) (l : LaneId) (s : State) : State :=
  s.onOriginators fun o q => if s.laneEventReaches k l o then q.gather (lanePlace l) k s.timebase else q

/-- R16, R17: a device event is offered. -/
def State.offerDevice (k : EventKind) (s : State) : State :=
  s.onOriginators fun _ q => if q.isOpen k then q.gather devicePlace k s.timebase else q

/-! ### Sense records (R119 to R126) -/

/-- R119: a condition is recorded into a record. -/
def Sense.record (c : Cond) (now : Stamp) (epoch : Option (BitVec 16)) (r : Sense) : Sense :=
  match r.held with
  | none => { r with held := some ⟨c, now, epoch⟩ }
  | some h =>
    { r with held := if h.cond.key ≤ c.key then some ⟨c, now, epoch⟩ else some h
             further := min 255 (r.further + 1) }

/-- R121: the condition of a record is cleared; its attention causes stay. -/
def Sense.clear (r : Sense) : Sense := { r with held := none, further := 0 }

/-- R125: a cause is added to a record's set. -/
def Sense.addCause (cause : BitVec 8) (r : Sense) : Sense := { r with causes := r.causes ||| cause }

/-- R126: a record's cause set becomes empty. -/
def Sense.clearCauses (r : Sense) : Sense := { r with causes := 0 }

/-- A lane record has attention pending (R116). -/
def LaneState.attentionOf (L : LaneState) (o : Originator) : BitVec 8 := L.sense[o].causes

/-- R119 in a lane record: with the current timebase and the lane's epoch. -/
def State.recordLane (c : Cond) (o : Originator) (l : LaneId) (s : State) : State :=
  s.onLane l fun L => L.onSense o (Sense.record c s.timebase (some L.link.epoch))

/-- R119 in a device record. -/
def State.recordDevice (c : Cond) (o : Originator) (s : State) : State :=
  { s with deviceSense := s.deviceSense.set o (Sense.record c s.timebase none s.deviceSense[o]) }

/-- R109, R118: an asynchronous condition goes to the beneficiary's lane record, and nowhere on a FREE lane. -/
def State.recordAsync (c : Cond) (l : LaneId) (s : State) : State :=
  match (s.lane l).claim with
  | none => s
  | some k => s.recordLane c k.beneficiary l

/-- R125: a cause is set in the lane's record of every originator. -/
def State.setAttention (cause : BitVec 8) (l : LaneId) (s : State) : State :=
  s.onLane l fun L => { L with sense := Vector.ofFn fun o => (L.sense[o]).addCause cause }

/-- R121: the condition of `o` on the lane is cleared. -/
def State.clearCondition (o : Originator) (l : LaneId) (s : State) : State :=
  s.onLane l fun L => L.onSense o Sense.clear

/-- R126: the attention of `o` on the lane is cleared. -/
def State.clearAttention (o : Originator) (l : LaneId) (s : State) : State :=
  s.onLane l fun L => L.onSense o Sense.clearCauses

/-! ### The reply store (R7, R8) -/

/-- A reply becomes READY and joins the READY list (R8). -/
def State.pushReply (r : Reply) (s : State) : State := { s with ready := s.ready ++ [r] }

/-- The reply to a request. -/
def Request.reply (rq : Request) (status : Status) (body : List Byte) : Reply :=
  ⟨rq.originator, rq.lane, rq.code, rq.tag, status, body⟩

/-- The request's reply becomes READY. -/
def State.answer (rq : Request) (status : Status) (body : List Byte) (s : State) : State :=
  s.pushReply (rq.reply status body)

/-- The send in flight (R38). -/
def OutEngine.flight : OutEngine → Option Flight
  | .idle => none
  | .sending f _ => some f
  | .retryWait f _ => some f

/-- The lane's sends, the one in flight first, then the queue oldest first (R35). -/
def LaneState.sends (L : LaneState) : List SendRecord :=
  (L.link.out.flight.map Flight.record).toList ++ L.send.queue

/-- The reply entries RESERVED for a lane: one for each send and one for each STOP_STROKES that waits (R8). -/
def LaneState.reservedEntries (L : LaneState) : Nat := L.sends.length + L.strokes.waiting.length

/-- The RESERVED entries of the reply store (R7). -/
def State.reservedEntries (s : State) : Nat := (s.lanes.toList.map LaneState.reservedEntries).sum

/-- The FREE entries of the reply store (R7). -/
def State.freeEntries (s : State) : Nat := Config.replyEntries - (s.ready.length + s.reservedEntries)

/-! ### Cells (R50 to R54) -/

/-- R50: the cells of a packet of `n` data bytes, ceil((n + 16) / 128). -/
def cellsOf (n : Nat) : Nat := (n + 16 + 127) / 128

/-- The cells of a send (R50). -/
def SendRecord.cells (r : SendRecord) : Nat := cellsOf r.data.length

/-- The cells of a packet record (R50). -/
def PacketRecord.cells (p : PacketRecord) : Nat := cellsOf p.data.length

/-- The cells of a list of packet records. -/
def recordCells (ps : List PacketRecord) : Nat := (ps.map PacketRecord.cells).sum

/-- R49: the cells of the upstream region. -/
def State.upCells (s : State) : Nat := Config.cells - s.downCells

/-- R53: the size of the shared pool. -/
def State.sharedPool (s : State) : Nat := s.upCells - Config.lanes * s.reserve

/-- R53: what a lane borrows from the shared pool. -/
def State.borrowing (s : State) (L : LaneState) : Nat := L.occupancy - s.reserve

/-- R53: the total borrowing B. -/
def State.totalBorrowing (s : State) : Nat := (s.lanes.toList.map s.borrowing).sum

/-- R53: the shared free cells F. -/
def State.sharedFree (s : State) : Nat := s.sharedPool - s.totalBorrowing

/-- R51, R52: `n` downstream cells are taken, or released. -/
def State.takeDown (n : Nat) (s : State) : State := { s with downHeld := s.downHeld + n }
@[inherit_doc State.takeDown]
def State.releaseDown (n : Nat) (s : State) : State := { s with downHeld := s.downHeld - n }

/-! ### The end of a send (R70, R72) -/

/-- The reply to a send record, to its own sender (R72). -/
def SendRecord.reply (r : SendRecord) (l : LaneId) (status : Status) (body : List Byte) : Reply :=
  ⟨r.sender, laneByte l, 0x20, r.tag, status, body⟩

/-- A send ends with a CHECK reply, which records its condition in the sender's lane record, and its cells are
released (R52, R70, R117). -/
def State.endSendCheck (c : Cond) (l : LaneId) (r : SendRecord) (s : State) : State :=
  ((s.releaseDown r.cells).recordLane c r.sender l).pushReply (r.reply l .check (shortSense c))

/-- A send ends with GOOD: acceptance epoch and retry count; the sender's condition is cleared (R70, R121). -/
def State.endSendGood (retries : Nat) (l : LaneId) (r : SendRecord) (s : State) : State :=
  ((s.releaseDown r.cells).clearCondition r.sender l).pushReply
    (r.reply l .good (le16 r.epoch.toNat ++ le8 retries))

/-- Sends are cancelled in list order with one condition (R35, R77, R80). -/
def State.cancelSends (c : Cond) (l : LaneId) (rs : List SendRecord) (s : State) : State :=
  rs.foldl (fun t r => t.endSendCheck c l r) s

/-- Records of a broken chain are cancelled in order, each with its position (R74). -/
def State.cancelChain (l : LaneId) : Nat → List SendRecord → State → State
  | _, [], s => s
  | k, r :: rs, s => State.cancelChain l (k + 1) rs (s.endSendCheck (.chainBroken k) l r)

/-- R74: the records of the queue that follow in the chain (up to the first with CHAIN clear, which is one of
them), and the records behind them. -/
def splitChain : List SendRecord → List SendRecord × List SendRecord
  | [] => ([], [])
  | r :: rs => if r.chain then (r :: (splitChain rs).1, (splitChain rs).2) else ([r], rs)

end Sys2Proof.Machine
end

