-- ==== Sys2Proof/Machine/LaneBus.lean ====
section
/-! DEFINITION. What a lane port puts on the phone's bus: the bulk packet size (R29), the data packets of a packet
(R38), the transactions and the stall clearing that the port makes, with address, endpoint, data toggle and bytes
(R29, R30, R36, R38, R40), and the data toggles' course (PRESUMED log 23). -/

namespace Sys2Proof.Machine

/-- R29: the bulk packet size of the attachment, P. -/
def Link.packetSize (n : Link) : Nat := if n.highSpeed then 512 else 64

/-- R38: the data packets of a packet of `len` bytes with packet size `p`: a zero-length one ends a packet of 0 bytes
or of a whole multiple of `p`. -/
def dataPackets (len p : Nat) : Nat := len / p + 1

/-- R38: data packet `i` (from 0) of a packet: `p` bytes, and in the last one what is left. -/
def dataPacket (p : Nat) (data : List Byte) (i : Nat) : List Byte := (data.drop (i * p)).take p

/-- An OUT transaction as the phone receives it. -/
structure OutTransaction where
  address : BitVec 7
  endpoint : BitVec 4
  toggle : Bool
  data : List Byte
deriving DecidableEq, Repr

/-- The packet that the lane sends to the phone, and how many of its data packets have been accepted: the send of an
attempt under way (R38), or the identity request (R30). -/
def Link.outgoing (n : Link) : Option (List Byte × Nat) :=
  match n.out, n.state with
  | .sending f _, _ => some (f.record.data, f.accepted)
  | _, .attaching ⟨_, .identifying .request none⟩ => some (Config.identityRequest, 0)
  | _, _ => none

/-- R29, R30, R38: the OUT transaction under way on the lane port. -/
def Link.outTransaction (n : Link) : Option OutTransaction :=
  match n.function, n.outgoing with
  | some d, some (data, accepted) => some ⟨n.address, d.outEndpoint, n.outToggle, dataPacket n.packetSize data accepted⟩
  | _, _ => none

/-- R42, R58, R59: the poll whose IN transaction is under way: in POLLING, and in an engine that is IDLE while a poll
runs to its end. -/
def InEngine.asking : InEngine → Option Poll
  | .idle underWay => underWay
  | .polling p => some p
  | .pollWait _ _ => none

/-- R42: the same poll goes on, having read `p`; the engine's state is what it was. -/
def InEngine.goOn (p : Poll) : InEngine → InEngine
  | .idle _ => .idle (some p)
  | .polling _ => .polling p
  | .pollWait left _ => .pollWait left (some p)

/-- The lane reads from the phone's IN endpoint: a poll (R42) or the identity read (R30). -/
def Link.awaitsData (n : Link) : Bool :=
  match n.inn.asking, n.state with
  | some _, _ => true
  | none, .attaching ⟨_, .identifying (.reading _) none⟩ => true
  | none, _ => false

/-- R29, R30, R42: the address and the endpoint of the IN transaction under way on the lane port. -/
def Link.inTransaction (n : Link) : Option (BitVec 7 × BitVec 4) :=
  match n.function, n.awaitsData with
  | some d, true => some (n.address, d.inEndpoint)
  | _, _ => none

/-- The lane's endpoint (R29). -/
def DiagFunction.endpoint (d : DiagFunction) : Endpoint → BitVec 4
  | .out => d.outEndpoint
  | .inn => d.inEndpoint

/-- R40: the stall clearing under way on the phone's control endpoint: the address, and the endpoint to be cleared. -/
def Link.clearing (n : Link) : Option (BitVec 7 × Endpoint × BitVec 4) :=
  match n.function, n.clearings, n.clearRetry with
  | some d, e :: _, none => some (n.address, e, d.endpoint e)
  | _, _, _ => none

/-- R36: the phone has accepted a data packet; the next one has the other toggle. -/
def State.tookOut (l : LaneId) (s : State) : State :=
  s.onLane l fun L => L.onLink fun n => { n with outToggle := !n.outToggle }

/-- R36: a data packet of the phone has been taken; the next one has the other toggle. -/
def State.tookIn (l : LaneId) (s : State) : State :=
  s.onLane l fun L => L.onLink fun n => { n with inToggle := !n.inToggle }

/-- R40, R43: a clearing is done: the next one begins, and the endpoint's data toggle is DATA0 again (PRESUMED log
23). -/
def Link.clearingEnds (e : Endpoint) (rest : List Endpoint) (n : Link) : Link :=
  match e with
  | .out => { n with clearings := rest, outToggle := false }
  | .inn => { n with clearings := rest, inToggle := false }

end Sys2Proof.Machine
end

