-- ==== Sys2Proof/Machine/Flags.lean ====
section
/-! DEFINITION. The flags that one block keeps and another reads: flow hold (R58), squeeze (R59), the poll
conditions (R41), eligibility (R92), and the lamp that shows lane state (R161). -/

namespace Sys2Proof.Machine

/-! ### Flow hold and squeeze -/

/-- R58, after an admission: the flag is set at the high watermark. -/
def LaneState.holdAfterAdmission (L : LaneState) : LaneState :=
  { L with flowHeld := decide (L.options.high ≤ L.occupancy) || L.flowHeld }

/-- R58, after a release: the flag is cleared at the low watermark. -/
def LaneState.holdAfterRelease (L : LaneState) : LaneState :=
  { L with flowHeld := !decide (L.occupancy ≤ L.options.low) && L.flowHeld }

/-- R58, after SET_LANE_OPTIONS (and for CONFIGURE_POOL, R61). -/
def LaneState.holdAfterOptions (L : LaneState) : LaneState :=
  { L with flowHeld := decide (L.options.high ≤ L.occupancy) ||
      (!decide (L.occupancy ≤ L.options.low) && L.flowHeld) }

/-- R59, after an admission: below 9 shared free cells the pool enters squeeze. -/
def State.squeezeAfterAdmission (s : State) : State :=
  if s.sharedFree < Config.squeezeBelow ∧ s.squeezed = false then
    ({ s with squeezed := true }).offerDevice .poolSqueeze
  else s

/-- R59, after a release: at 27 shared free cells the pool leaves squeeze. -/
def State.squeezeAfterRelease (s : State) : State :=
  if Config.reliefAt ≤ s.sharedFree ∧ s.squeezed = true then
    ({ s with squeezed := false }).offerDevice .poolRelief
  else s

/-- R59, after SET_LANE_OPTIONS: the same two tests. Where CONFIGURE_POOL left fewer than 9 cells to the shared pool,
they find a pool that is not squeezed below 9 without an admission, and it enters squeeze here, although R59 says that
the evaluation leaves the state as it was (DESIGN CHOICE log 31). -/
def State.squeezeAfterOptions (s : State) : State := s.squeezeAfterAdmission.squeezeAfterRelease

/-- R57: `n` upstream cells of the lane are released, and hold and squeeze are evaluated. -/
def State.releaseUp (n : Nat) (l : LaneId) (s : State) : State :=
  (s.onLane l fun L => ({ L with occupancy := L.occupancy - n }).holdAfterRelease).squeezeAfterRelease

/-! ### Poll conditions (R41) -/

/-- R41: the three poll conditions of a lane. -/
def State.mayPoll (s : State) (l : LaneId) : Bool :=
  (s.lane l).link.state == .up && !(s.lane l).flowHeld &&
    (!s.squeezed || decide ((s.lane l).occupancy < s.reserve))

/-! ### Pack timer and eligibility (R91, R92) -/

/-- R92: the queued bytes of a lane: each record's length plus 8. -/
def queuedBytes (ps : List PacketRecord) : Nat := (ps.map fun p => p.data.length + 8).sum

/-- R92: tests 1, 3 and 4 (test 2 is the expiry itself). -/
def packReady (o : LaneOptions) (ps : List PacketRecord) : Bool :=
  decide (o.packTimer = 0) || (decide (o.packThreshold ≠ 0) && decide (o.packThreshold ≤ queuedBytes ps)) ||
    ps.any PacketRecord.urgent

/-- R92: the tests are evaluated; a lane that becomes eligible has its pack timer stopped (R91). -/
def LaneState.evalEligible (L : LaneState) : LaneState :=
  if L.upstream.queue ≠ [] ∧ packReady L.options L.upstream.queue = true then
    L.onUpstream fun u => { u with eligible := true, packTimer := none }
  else L

/-- R91: the value that a starting pack timer takes; 0 starts none. -/
def packStart (o : LaneOptions) : Timer := if o.packTimer = 0 then none else some (o.packTimer * 100)

/-- R91, R92: records have joined the queue, which held `before` ahead of them. -/
def LaneState.recordsJoined (before : List PacketRecord) (L : LaneState) : LaneState :=
  (if before = [] then L.onUpstream fun u => { u with packTimer := packStart L.options } else L).evalEligible

/-- R91, R92: the queue has been emptied: the timer is stopped and the eligible flag cleared. -/
def Upstream.emptied (u : Upstream) : Upstream := { u with queue := [], packTimer := none, eligible := false }

/-- R78: every record of the upstream queue is discarded and its cells released. -/
def State.discardUpstream (l : LaneId) (s : State) : State :=
  (s.onLane l fun L => L.onUpstream Upstream.emptied).releaseUp (recordCells (s.lane l).upstream.queue) l

/-! ### What the outside sees of a lane -/

/-- R129: the supply switch is closed in ON only. -/
def LaneState.switchClosed (L : LaneState) : Bool := L.supply.state == .on

/-- R161: the lamp's source is true. -/
def LaneState.lampSource (L : LaneState) : Bool :=
  match L.lamp.source with
  | .off => false
  | .on => true
  | .linkUp => L.link.state == .up
  | .activity => L.activity.isSome
  | .held => L.isHeld
  | .condition =>
    match L.claim with
    | none => false
    | some c =>
      match L.sense[c.beneficiary].held with
      | none => false
      | some h => decide (6 ≤ h.cond.key)
  | .stroking => L.strokes.state.code == 1
  | .keep => L.keep
  | .supplyOn => L.supply.state == .on
  | .tripped => L.supply.state == .tripped

/-- R161: the common blink phase is in its on half. -/
def blinkOn (t : Stamp) : Bool := t.toNat / 250000 % 2 == 0

/-- R161, R163: the lamp of lane `l` is lit. During a hard reset every lamp is dark. -/
def State.lampLit (s : State) (l : LaneId) : Bool :=
  let L := s.lane l
  !s.hardReset && ((L.lampSource && (!L.lamp.blink || blinkOn s.timebase)) != (L.lamp.invert))

end Sys2Proof.Machine
end

