-- ==== Sys2Proof/Machine/Windows.lean ====
section
/-! DEFINITION. Measurement windows as the other blocks use them (R138 to R140): firing on a trigger, taking a
sample, ending, and the supply's entries and exits that R130 to R134 share. -/

namespace Sys2Proof.Machine

/-- R138: a window that fires goes to MEASURING, or to DELAYING when it has a delay. -/
def WindowParams.start (p : WindowParams) : ActiveWindow :=
  if p.delay = 0 then .measuring p Figures.zero else .delaying p p.delay

/-- R138: an ARMED window whose trigger is met fires. -/
def ActiveWindow.fire (hit : WindowParams → Bool) (w : ActiveWindow) : ActiveWindow :=
  match w with
  | .armed p => if hit p then p.start else .armed p
  | w => w

/-- R138: the lane's active window fires on a trigger. -/
def Supply.fireOn (hit : WindowParams → Bool) (u : Supply) : Supply := { u with active := u.active.fire hit }

/-- R130, R138: the trigger SUPPLY_ON. -/
def hitsSupplyOn (p : WindowParams) : Bool := p.trigger == .supplyOn
/-- R32, R138: the trigger LINK_UP. -/
def hitsLinkUp (p : WindowParams) : Bool := p.trigger == .linkUp
/-- R138, R151: the trigger STROKE_STEP `k`. -/
def hitsStep (k : Nat) (p : WindowParams) : Bool := p.trigger == .strokeStep && p.step == k
/-- R132: the trigger NOW. -/
def hitsNow (p : WindowParams) : Bool := p.trigger == .now

/-- R138: the smaller, and the larger, of a figure and a sample; the sample itself where there is none yet. -/
def minWith (s : Nat) : Option Nat → Option Nat
  | none => some s
  | some m => some (min m s)
@[inherit_doc minWith]
def maxWith (s : Nat) : Option Nat → Option Nat
  | none => some s
  | some m => some (max m s)

/-- R136, R138: a sample meets the capture edge. -/
def WindowParams.meetsEdge (p : WindowParams) (s : Nat) : Bool :=
  decide (p.level ≠ 0) && if p.rise then decide (p.level ≤ s) else decide (s ≤ p.level)

/-- R138: a measured sample enters the figures. -/
def Figures.take (p : WindowParams) (s : Nat) (f : Figures) : Figures :=
  { samples := f.samples + 1
    sum := f.sum + s
    minimum := minWith s f.minimum
    maximum := maxWith s f.maximum
    capture := if f.capture = none ∧ p.meetsEdge s = true then some f.samples else f.capture }

/-- R139: the mean, rounded half up; absent when no sample was measured. -/
def Figures.mean (f : Figures) : Option Nat :=
  if f.samples = 0 then none else some ((f.sum + f.samples / 2) / f.samples)

/-- R139, steps 1 and 3: the result replaces the last one, and a staged window is promoted to ARMED. -/
def Supply.endWindow (done : Bool) (p : WindowParams) (f : Figures) (now : Stamp) (u : Supply) : Supply :=
  { u with
    result := some { done := done, length := p.length, figures := f, endTime := now }
    active := match u.staged with
      | some q => .armed q
      | none => if done then .done p else .aborted p
    staged := none }

/-- R139: the active window of a lane ends, and WINDOW_DONE is offered. -/
def State.endWindow (done : Bool) (p : WindowParams) (f : Figures) (l : LaneId) (s : State) : State :=
  (s.onLane l fun L => L.onSupply (Supply.endWindow done p f s.timebase)).offerLane .windowDone l

/-- R140, trip: a window that is DELAYING or MEASURING is aborted; an ARMED one stays. -/
def State.abortOnTrip (l : LaneId) (s : State) : State :=
  match (s.lane l).supply.active with
  | .delaying p _ => s.endWindow false p Figures.zero l
  | .measuring p f => s.endWindow false p f l
  | _ => s

/-- R140, emptied nest: a window that is ARMED, DELAYING or MEASURING is aborted. -/
def State.abortOnEmptied (l : LaneId) (s : State) : State :=
  match (s.lane l).supply.active with
  | .armed p => s.endWindow false p Figures.zero l
  | .delaying p _ => s.endWindow false p Figures.zero l
  | .measuring p f => s.endWindow false p f l
  | _ => s

/-- R138: a sample event of a window that is DELAYING or MEASURING. -/
def State.windowSample (v : Nat) (l : LaneId) (s : State) : State :=
  match (s.lane l).supply.active with
  | .delaying p skip =>
    s.onLane l fun L => L.onSupply fun u =>
      { u with active := if skip ≤ 1 then .measuring p Figures.zero else .delaying p (skip - 1) }
  | .measuring p f =>
    if p.length ≤ f.samples + 1 then s.endWindow true p (f.take p v) l
    else s.onLane l fun L => L.onSupply fun u => { u with active := .measuring p (f.take p v) }
  | _ => s

/-- R130, R131, R134: a supply that enters ON, changes source, or leaves ON has its counts at 0. -/
def Supply.zeroCounts (u : Supply) : Supply := { u with blankCount := 0, blankPassed := false, tripRun := 0 }

/-- R131: the supply's part of an emptied nest. -/
def Supply.nestEmptied (u : Supply) : Supply :=
  match u.state with
  | .on => { u.zeroCounts with state := .off }
  | .off => u
  | .tripped => u

/-- R133: a supply that is ON is still inside its blanking. The count stops at the Bk in force (R133's steps), and a
supply that has passed its blanking stays past it (R135) whatever Bk a SET_TRIP then sets (DEDUCED log 30). -/
def Supply.blanked (u : Supply) : Bool := !u.blankPassed && decide (u.blankCount < u.blanking)

/-- R132, step 2, and R133: how the trip logic counts a sample; the flag says that the run has reached K. -/
def Supply.judge (v : Nat) (u : Supply) : Supply × Bool :=
  if u.state ≠ .on then (u, false)
  else if u.blanked then ({ u with blankCount := u.blankCount + 1 }, false)
  else if u.tripLevel = 0 then ({ u with tripRun := 0 }, false)
  else if v ≤ u.tripLevel then ({ u with tripRun := 0 }, false)
  else ({ u with tripRun := u.tripRun + 1 }, decide (u.tripCount ≤ u.tripRun + 1))

/-- R134: a trip is taken. -/
def State.trip (v : Nat) (l : LaneId) (s : State) : State :=
  (((s.onLane l fun L => L.onSupply fun u => { u.zeroCounts with state := .tripped }).abortOnTrip l).recordAsync
    (.overcurrent v) l).offerLane .supplyTripped l

/-- R133, R134: the trip logic takes a sample. -/
def State.tripSample (v : Nat) (l : LaneId) (s : State) : State :=
  let t := s.onLane l fun L => L.onSupply fun u => (u.judge v).1
  if ((s.lane l).supply.judge v).2 then t.trip v l else t

/-- R132: the µs from a timebase value to the next sample instant: the next multiple of 250, or the wrap to 0
where that comes first. -/
def toNextSample (t : Stamp) : Nat := min (Config.sampleUs - t.toNat % Config.sampleUs) (2 ^ 32 - t.toNat)

end Sys2Proof.Machine
end

