-- ==== Sys2Proof/Machine/LinkOps.lean ====
section
/-! DEFINITION. What the lane link does on its state changes, whatever command brings the change: entering
WAITING and ATTACHING (R28, R29), entering UP and FAILED (R32, R33), leaving UP (R35), the link fault (R37),
and the effects of nest, LINK_RESET, SET_LINK and LANE_RESET on the link (R27, R44, R45, R48). -/

namespace Sys2Proof.Machine

/-- The lane's link enters a state. -/
def State.setLinkState (k : LinkState) (l : LaneId) (s : State) : State :=
  s.onLane l fun L => L.onLink fun n => { n with state := k }

/-- R29: entry to ATTACHING. An attach under way is replaced by a new one. -/
def State.enterAttaching (l : LaneId) (s : State) : State :=
  s.onLane l fun L => L.onLink fun n =>
    { n with
      state := .attaching { left := L.options.attachLimit * 1000, phase := .resetting Config.portResetUs }
      errorCount := 0 }

/-- R28: entry to WAITING; a device that is present takes the link on to ATTACHING in the same event. -/
def State.enterWaiting (l : LaneId) (s : State) : State :=
  if (s.lane l).link.connectPresent then s.enterAttaching l else s.setLinkState .waiting l

/-- R35, steps 5 and 6: poll, engines, clearings and the error count. -/
def Link.quiet (n : Link) : Link :=
  { n with out := .idle, inn := .idle none, clearings := [], clearRetry := none, errorCount := 0 }

/-- R35: leaving UP. The sends end LINK_LOST, in flight first, then oldest first; poll, engines and clearings are
dropped; LINK_DOWN is offered. The state entered afterwards is the caller's. -/
def State.leaveUp (l : LaneId) (s : State) : State :=
  ((s.onLane l fun L => { L with link := L.link.quiet, send := { L.send with queue := [] } }).cancelSends
    .linkLost l (s.lane l).sends).offerLane .linkDown l

/-- R37: a link fault; `engine` is 0 for OUT and 1 for IN. -/
def State.linkFault (engine : Nat) (l : LaneId) (s : State) : State :=
  ((s.recordAsync (.transportErrors engine) l).leaveUp l).enterAttaching l

/-- R33: an attach fails, with its reason. -/
def State.attachFails (reason : Nat) (l : LaneId) (s : State) : State :=
  ((s.setLinkState .failed l).offerLane .attachFailed l).recordAsync (.attachFailed reason) l

/-- R32: an attach succeeds. -/
def State.attachSucceeds (id : Identity) (l : LaneId) (s : State) : State :=
  ((((s.onLane l fun L => L.onLink fun n =>
      { n with state := .up, epoch := n.epoch + 1, identity := some id }).setAttention causePhoneReattached l).offerLane
    .linkUp l).onLane l fun L => L.onUpstream fun u => { u with seq := 0, firstPending := true }).onLane l
    fun L => L.onSupply (Supply.fireOn hitsLinkUp)

/-- R27, R158: a nest becomes seated. -/
def State.linkNestSeated (l : LaneId) (s : State) : State :=
  match (s.lane l).link.state with
  | .vacant => s.enterWaiting l
  | _ => s

/-- R27, R159 step 1: a nest becomes empty. The identity is cleared in every state. -/
def State.linkNestEmptied (l : LaneId) (s : State) : State :=
  let t :=
    match (s.lane l).link.state with
    | .disabled => s
    | .vacant => s
    | .waiting => s.setLinkState .vacant l
    | .attaching _ => s.setLinkState .vacant l
    | .up => (s.leaveUp l).setLinkState .vacant l
    | .failed => s.setLinkState .vacant l
  t.onLane l fun L => L.onLink fun n => { n with identity := none }

/-- R27: a connect detection acts on a waiting link. -/
def State.linkConnect (l : LaneId) (s : State) : State :=
  match (s.lane l).link.state with
  | .waiting => s.enterAttaching l
  | _ => s

/-- R27: a disconnect detection. -/
def State.linkDisconnect (l : LaneId) (s : State) : State :=
  match (s.lane l).link.state with
  | .attaching _ => s.enterWaiting l
  | .up => (s.leaveUp l).enterWaiting l
  | .failed => s.enterWaiting l
  | _ => s

/-- R44, R48: a fresh attach is asked for. From UP the link leaves UP first; then ATTACHING if a device is present,
otherwise WAITING. DISABLED and VACANT stay. -/
def State.linkReattach (l : LaneId) (s : State) : State :=
  match (s.lane l).link.state with
  | .disabled => s
  | .vacant => s
  | .waiting => s.enterWaiting l
  | .attaching _ => s.enterWaiting l
  | .up => (s.leaveUp l).enterWaiting l
  | .failed => s.enterWaiting l

/-- R45: SET_LINK off. -/
def State.linkOff (l : LaneId) (s : State) : State :=
  match (s.lane l).link.state with
  | .up => (s.leaveUp l).setLinkState .disabled l
  | _ => s.setLinkState .disabled l

/-- R45: SET_LINK on. -/
def State.linkOn (l : LaneId) (s : State) : State :=
  match (s.lane l).link.state with
  | .disabled => if (s.lane l).nest.seated then s.enterWaiting l else s.setLinkState .vacant l
  | _ => s

/-- R48: the link's part of LANE_RESET. -/
def State.linkLaneReset (l : LaneId) (s : State) : State :=
  (s.linkReattach l).onLane l fun L => L.onLink fun n =>
    { n with recovered := 0, errorCount := 0, clearings := [], clearRetry := none }

/-- R36, R37: a transport error of engine `engine` is counted; at the attempt limit it is a link fault, and
otherwise `go` says how the work goes on. -/
def State.transportError (engine : Nat) (l : LaneId) (go : State → State) (s : State) : State :=
  let t := s.onLane l fun L => L.onLink fun n => { n with errorCount := n.errorCount + 1 }
  if (s.lane l).options.attemptLimit ≤ (s.lane l).link.errorCount + 1 then t.linkFault engine l else go t

/-- R36: a successful transaction, or a clearing that is done. -/
def State.zeroErrors (l : LaneId) (s : State) : State :=
  s.onLane l fun L => L.onLink fun n => { n with errorCount := 0 }

end Sys2Proof.Machine
end

