-- ==== Sys2Proof/Machine/Collector.lean ====
section
/-! DEFINITION. The upstream collector: the four steps of an arrival (R84 to R89, with R54 and R55), the choice of a
lane (R94) and the building of a DATA_UP frame (R93). -/

namespace Sys2Proof.Machine

/-- R85: the length limit of a lane. -/
def LaneState.lengthLimit (L : LaneState) : Nat := if L.options.long then 1024 else 512

/-- R87: the action that applies to a class on a lane; promiscuous takes DISCARD and COUNT as DELIVER. -/
def effectiveAction (promiscuous : Bool) : ClassAction → ClassAction
  | .discard => if promiscuous then .deliver else .discard
  | .count => if promiscuous then .deliver else .count
  | .deliver => .deliver
  | .urgent => .urgent

/-- R87: the class of a packet: its first byte, 0 for an empty packet. -/
def classOf (data : List Byte) : Byte := data.headD 0

/-- R86: the class table's entry for a class. -/
def State.classAction (s : State) (c : Byte) : ClassAction := s.classes[c.toNat]

/-- R54: the extra borrowing of `c` more cells on a lane. -/
def State.extraBorrowing (s : State) (L : LaneState) (c : Nat) : Nat :=
  (L.occupancy + c - s.reserve) - s.borrowing L

/-- R54: the two admission tests. -/
def State.admits (s : State) (L : LaneState) (c : Nat) : Bool :=
  decide (L.occupancy + c ≤ L.options.cap) && decide (s.extraBorrowing L c ≤ s.sharedFree)

/-- R89: the record that an admitted packet becomes. -/
def LaneState.newRecord (L : LaneState) (data : List Byte) (seq : BitVec 16) (damaged urgent : Bool) :
    PacketRecord :=
  { data := data, seq := seq, epoch := L.link.epoch, damaged := damaged, urgent := urgent
    firstInEpoch := L.upstream.firstPending, dropsBefore := L.upstream.drops }

/-- R54, R89, R91, R92 and R58 on the lane of an admitted packet. -/
def LaneState.takeIn (p : PacketRecord) (L : LaneState) : LaneState :=
  ((({ L with occupancy := L.occupancy + p.cells }).onUpstream fun u =>
      { u with queue := u.queue ++ [p], drops := 0, firstPending := false }).recordsJoined
    L.upstream.queue).holdAfterAdmission

/-- R55: an overrun. -/
def State.overrun (seq : BitVec 16) (l : LaneId) (s : State) : State :=
  ((s.onLane l fun L => L.onUpstream fun u => { u with drops := min 255 (u.drops + 1) }).recordAsync
    (.upstreamOverrun seq.toNat) l).offerLane .overrun l

/-- R88, R89: the sequence step and the admission step. -/
def State.sequenceStep (data : List Byte) (damaged urgent : Bool) (l : LaneId) (s : State) : State :=
  let seq := (s.lane l).upstream.seq
  let t := s.onLane l fun L => L.onUpstream fun u => { u with seq := u.seq + 1 }
  let p := (s.lane l).newRecord data seq damaged urgent
  if s.admits (s.lane l) p.cells then (t.onLane l fun L => L.takeIn p).squeezeAfterAdmission
  else t.overrun seq l

/-- R87: the class step. -/
def State.classStep (data : List Byte) (damaged : Bool) (l : LaneId) (s : State) : State :=
  match effectiveAction (s.lane l).options.promiscuous (s.classAction (classOf data)) with
  | .deliver => s.sequenceStep data damaged false l
  | .urgent => s.sequenceStep data damaged true l
  | .discard => s
  | .count => s.onLane l fun L => L.onUpstream fun u => { u with counted := u.counted + 1 }

/-- R84, R85: an arrival: the first 1024 bytes of a packet of which the phone sent `count` bytes. -/
def State.arrival (kept : List Byte) (count : Nat) (l : LaneId) (s : State) : State :=
  if count ≤ (s.lane l).lengthLimit then s.classStep kept false l
  else if (s.lane l).options.keepDamaged then s.classStep (kept.take (s.lane l).lengthLimit) true l
  else s.onLane l fun L => L.onUpstream fun u => { u with damaged := u.damaged + 1 }

/-! ### DATA_UP frames -/

/-- R93, step 2: the records that a frame takes from a queue's head, with `room` body bytes left, and those that
stay. -/
def takeRecords : Nat → List PacketRecord → List PacketRecord × List PacketRecord
  | _, [] => ([], [])
  | room, p :: ps =>
    if room < p.data.length + 8 then ([], p :: ps)
    else if p.urgent then ([p], ps)
    else
      let rest := takeRecords (room - (p.data.length + 8)) ps
      (p :: rest.1, rest.2)

/-- The first element of `Fin n`'s cyclic order after `p` that satisfies `ok` (R13, R94). -/
def firstAfter {n : Nat} [NeZero n] (p : Fin n) (ok : Fin n → Bool) : Option (Fin n) :=
  ((List.range n).map fun k => p + Fin.ofNat n (k + 1)).find? ok

/-- R94: a lane is a candidate of the priority class, or of the normal class. -/
def LaneState.candidate (priority : Bool) (L : LaneState) : Bool :=
  L.isHeld && L.upstream.eligible && (L.options.priority == priority)

/-- R94: the lane that is served next, with the state after the choice. -/
def State.chooseLane (s : State) : Option (LaneId × State) :=
  let prio := firstAfter s.prioPointer fun l => (s.lane l).candidate true
  let norm := firstAfter s.normPointer fun l => (s.lane l).candidate false
  match prio, norm with
  | some p, none => some (p, { s with prioPointer := p, runCount := min 8 (s.runCount + 1) })
  | some p, some n =>
    if 8 ≤ s.runCount then some (n, { s with normPointer := n, runCount := 0 })
    else some (p, { s with prioPointer := p, runCount := min 8 (s.runCount + 1) })
  | none, some n => some (n, { s with normPointer := n, runCount := 0 })
  | none, none => none

/-- R93, steps 4 and 5: the records that stay, and the flag and timer when none does. -/
def Upstream.afterBuild (stay : List PacketRecord) (u : Upstream) : Upstream :=
  if stay = [] then u.emptied else { u with queue := stay }

/-- R93: the DATA_UP frame of a lane. A lane that is FREE is not chosen (R94). -/
def State.buildDataUp (l : LaneId) (s : State) : Option (Frame × State) :=
  match (s.lane l).claim with
  | none => none
  | some c =>
    let split := takeRecords Config.maxBody (s.lane l).upstream.queue
    some (.dataUp c.beneficiary l split.1, s.onLane l fun L => L.onUpstream (Upstream.afterBuild split.2))

end Sys2Proof.Machine
end

