-- ==== Sys2Proof/Machine/Resets.lean ====
section
/-! DEFINITION. The resets of the whole part: the station link reset (R23) and the device reset (R24, with R48, R64,
R100, R128, R144, R156, R157, R163, R164). -/

namespace Sys2Proof.Machine

/-- The records of a DATA_UP frame of lane `l`. -/
def recordsFor (l : LaneId) : Option Frame → List PacketRecord
  | some (.dataUp _ k records) => if k = l then records else []
  | some (.reply _) => []
  | some (.notice _ _) => []
  | none => []

/-- R23, R91, R92: records return to the head of a lane's queue. -/
def LaneState.returned (records : List PacketRecord) (L : LaneState) : LaneState :=
  if records = [] then L
  else (L.onUpstream fun u => { u with queue := records ++ u.queue }).recordsJoined L.upstream.queue

/-- R23: a station link reset. -/
def State.stationLinkReset (s : State) : State :=
  { (s.onLanes fun l L =>
      { L.returned (recordsFor l s.transmitting ++ recordsFor l s.staged) with
        sense := Vector.ofFn fun o => (L.sense[o]).addCause causeStationRestart }) with
    rx := Rx.idle
    ready := []
    transmitting := none
    staged := none
    originators := Vector.ofFn fun o =>
      { s.originators[o] with pacing := none, accumulator := Vector.replicate 25 none } }

/-- R24 and the reset rule of each block: a device reset. The pins keep their levels (DEDUCED log 7), the port keeps its
state (R22), and `running` says that the part is not held in hard reset. -/
def State.deviceReset (running : Bool) (s : State) : State :=
  { State.reset with
    port := s.port
    vbus := s.vbus
    hardReset := s.hardReset
    suspended := s.suspended
    lanes := Vector.ofFn fun l => LaneState.afterReset s.lanes[l].link.line s.lanes[l].nest.raw running
    pending := s.pending }

/-- R1, R22: the port leaves CONFIGURED for `next`: a station link reset, or the device reset that is pending. -/
def State.leaveConfigured (next : PortState) (s : State) : State :=
  let t := { s with port := next }
  if s.resetPending then t.deviceReset true else t.stationLinkReset

end Sys2Proof.Machine
end

