-- ==== Sys2Proof/WellFormed.lean ====
section
/-! DEFINITION. Which commands the outside world can send at all: the checks are on the operands alone. A
command that fails one is not an occasion the part can meet, and the machine does nothing with it (DESIGN CHOICE log 3). -/

namespace Sys2Proof

/-- The request codes that name a request (section 1.5 and the chapter of each request). -/
def requestCodes : List Nat :=
  [0x01, 0x02, 0x03, 0x04, 0x05, 0x06, 0x07, 0x08, 0x09, 0x0A,
   0x10, 0x11, 0x12, 0x13, 0x14, 0x15, 0x16, 0x17,
   0x20, 0x21, 0x22, 0x23, 0x24, 0x30, 0x31, 0x32, 0x33, 0x34,
   0x38, 0x39, 0x3A, 0x40, 0x41]

/-- R9: the request code names a request. -/
def namesRequest (code : Byte) : Bool := requestCodes.contains code.toNat

/-- A request frame passes the body-length check of R5. -/
def bodyFits (body : List Byte) : Bool := decide (body.length ≤ Config.maxBody)

/-- The well-formed commands: an OUT data packet is at most 512 bytes (section 1.1), a request's body at
most 4096 (R5), and an UNKNOWN_REQUEST names no request (R9). -/
def Instr.wellFormed : Instr → Bool
  | .outDataPacket bytes => decide (bytes.length ≤ Config.pipePacket)
  | .unknownRequest _ _ code _ body => !namesRequest code && bodyFits body
  | .deviceStatus _ _ _ body | .deviceReset _ _ _ body | .configurePool _ _ _ body
  | .setClassActions _ _ _ body | .readClassActions _ _ _ body | .openNotices _ _ _ body
  | .closeNotices _ _ _ body | .setPacing _ _ _ body | .startStrokes _ _ _ body
  | .deviceSense _ _ _ body | .claimLane _ _ _ body | .yieldLane _ _ _ body
  | .breakClaim _ _ _ body | .laneStatus _ _ _ body | .laneSense _ _ _ body
  | .laneIdentity _ _ _ body | .setLaneOptions _ _ _ body | .laneReset _ _ _ body
  | .sendPacket _ _ _ body | .resumeSend _ _ _ body | .flushLane _ _ _ body
  | .linkReset _ _ _ body | .setLink _ _ _ body | .supply _ _ _ body | .setTrip _ _ _ body
  | .armWindow _ _ _ body | .cancelWindow _ _ _ body | .readWindow _ _ _ body
  | .queueStrokes _ _ _ body | .stopStrokes _ _ _ body | .setStrokeTiming _ _ _ body
  | .setLamp _ _ _ body | .keepPhone _ _ _ body => bodyFits body
  | .frameDiscarded _ | .outResume | .setConfiguration | .deconfigure | .busReset | .vbusLoss
  | .vbusPresent | .suspend | .resume | .hardReset | .frameBuild | .inTransferDone
  | .pacingTimerExpiry _ | .lineStateChange _ _ | .connectDetection _ | .disconnectDetection _
  | .portResetEnd _ _ | .enumerationTransferDone _ _ | .attachRetryExpiry _
  | .identityTransactionDone _ _ | .identityReadTimeout _ | .attachTimerExpiry _ | .sendStart _
  | .outTransactionDone _ _ | .sendTimerExpiry _ | .retryWaitEnd _ | .stallClearingDone _ _
  | .stallClearingRetry _ | .pollIssue _ | .inTransactionDone _ _ | .pollNakTimeout _
  | .pollWaitEnd _ | .packTimerExpiry _ | .sampleEvent _ _ | .startInstant _ | .stepEnd _
  | .releaseGapEnd _ | .retractEnd _ | .nestInputChange _ _ | .nestQualificationEnd _
  | .activityTimerExpiry _ | .hardResetRelease => true

end Sys2Proof
end

