-- ==== Sys2Proof/Machine/Reception.lean ====
section
/-! DEFINITION. The OUT side (R4 to R6): bytes are taken one by one, a frame is judged at the byte that completes it
(or at byte 9 when the body length is too large), and the judgement is the next command's work (DESIGN CHOICE log 4, DEDUCED log 5).
Then the request checks (R9 to R11), and the meanings of OUT_DATA_PACKET, OUT_RESUME, FRAME_DISCARDED and
UNKNOWN_REQUEST. -/

namespace Sys2Proof.Machine

/-! ### Bytes and frames -/

/-- The body length that a frame's bytes announce (bytes 8 and 9). -/
def announced (got : List Byte) : Nat := u16At got 8

/-- Reception after it takes a byte that judges no frame (R4). -/
def Rx.takeByte (x : Rx) (b : Byte) : Rx :=
  match x.phase with
  | .hunt =>
    if x.got = [] then { x with begun := true, got := if b = 0x5A then [b] else [] }
    else if b = 0xC3 then { x with begun := true, phase := .header, got := [0x5A, 0xC3] }
    else { x with begun := true, got := if b = 0x5A then [b] else [] }
  | .header =>
    let got := x.got ++ [b]
    if got.length < 10 then { x with got := got }
    else { x with got := got, phase := if announced got = 0 then .crc else .body }
  | .body =>
    let got := x.got ++ [b]
    { x with got := got, phase := if got.length < 10 + announced got then .body else .crc }
  | .crc => { x with got := x.got ++ [b] }

/-- What a byte that ends a frame decides (R5). -/
inductive Verdict where
  | discard
  | request (rq : Request)
deriving DecidableEq, Repr

/-- R5: the judgement of a whole frame: CRC, kind, originator, in that order. -/
def judgeFrame (frame : List Byte) : Verdict :=
  let n := announced frame
  if (crc16 (frame.take (10 + n))).toNat ≠ u16At frame (10 + n) then .discard
  else if byteAt frame 2 ≠ 0x01 then .discard
  else if h : byteAt frame 3 < 8 then
    .request { originator := ⟨byteAt frame 3, h⟩, lane := frame.getD 4 0, code := frame.getD 5 0
               tag := frame.getD 6 0, body := (frame.drop 10).take n }
  else .discard

/-- Reception with other bytes in the receive buffer. -/
def Rx.withBuf (x : Rx) (bytes : List Byte) : Rx := { x with buf := bytes }

/-- The OUT side's reception becomes `x`. -/
def State.setRx (s : State) (x : Rx) : State := { s with rx := x }

/-- R4, R5: what taking byte `b` decides; `none` where the frame goes on. -/
def Rx.judges (x : Rx) (b : Byte) : Option Verdict :=
  match x.phase with
  | .hunt => none
  | .body => none
  | .header =>
    if x.got.length = 9 ∧ Config.maxBody < announced (x.got ++ [b]) then some .discard else none
  | .crc => if x.got.length < 11 + announced x.got then none else some (judgeFrame (x.got ++ [b]))

/-- R4, R6: reception takes the bytes of a list, up to the next byte that judges a frame; a frame is begun only
where it may be. Answers reception and the bytes left. -/
def Rx.run (mayBegin : Bool) : Rx → List Byte → Rx × List Byte
  | x, [] => (x, [])
  | x, b :: bs =>
    if (!x.begun && !mayBegin) || (x.judges b).isSome then (x, b :: bs)
    else Rx.run mayBegin (x.takeByte b) bs

/-- R6, R22: the OUT side may begin a frame. -/
def State.mayBegin (s : State) : Bool := decide (0 < s.freeEntries) && !s.resetPending

/-- The OUT side takes the bytes of its receive buffer as far as the next judgement (R4, R6). -/
def State.pump (s : State) : State :=
  let r := Rx.run s.mayBegin (s.rx.withBuf []) s.rx.buf
  s.setRx (r.1.withBuf r.2)

/-- The judgement that stands next: the head of the receive buffer ends a frame. A frame that is not begun is not
judged. -/
def State.verdict (s : State) : Option Verdict :=
  match s.rx.buf with
  | [] => none
  | b :: _ => s.rx.judges b

/-- The frame in progress ends with the byte at the head of the buffer; HUNT resumes behind it (R5). -/
def Rx.endFrame (x : Rx) : Rx := Rx.idle.withBuf x.buf.tail

/-- R1: the pipes carry frames. -/
def State.pipesRun (s : State) : Bool := s.port == .configured && !s.suspended

/-- The OUT side is in HUNT, with its buffer empty, and may take a frame (R4, R6). -/
def State.listening (s : State) : Bool :=
  s.pipesRun && s.rx.phase == .hunt && s.rx.buf.isEmpty && (s.rx.begun || s.mayBegin)

/-- A request's frame completes (R5, DESIGN CHOICE log 4): either its last byte stands next in the receive buffer, or all of its
bytes arrive now, at an OUT side that listens. `none` where the frame cannot complete. -/
def State.takeRequest (rq : Request) (s : State) : Option State :=
  if s.verdict = some (.request rq) then some (s.setRx s.rx.endFrame)
  else if s.listening && bodyFits rq.body then some (s.setRx Rx.idle)
  else none

/-- A request arrives, its reply entry RESERVED, and is carried out by `handle` before the OUT side goes on (R5, R10). -/
def arrive (rq : Request) (handle : Request → State → State) (s : State) : State :=
  match s.takeRequest rq with
  | none => s
  | some t => (handle rq t).pump

/-! ### The request checks -/

/-- R9, R117: a refusal at the well-formedness step, recorded under the lane byte, or in the device record. -/
def State.refuseForm (c : Cond) (rq : Request) (s : State) : State :=
  (if h : rq.lane.toNat < 24 then s.recordLane c rq.originator ⟨rq.lane.toNat, h⟩
   else s.recordDevice c rq.originator).answer rq .check (shortSense c)

/-- R117: a lane-scope request is refused by its own conditions. -/
def State.refuseLane (c : Cond) (l : LaneId) (rq : Request) (s : State) : State :=
  (s.recordLane c rq.originator l).answer rq .check (shortSense c)

/-- R117: a device-scope request is refused by its own conditions. -/
def State.refuseDevice (c : Cond) (rq : Request) (s : State) : State :=
  (s.recordDevice c rq.originator).answer rq .check (shortSense c)

/-- R121: an acting lane-scope request is carried out with GOOD: the requester's condition on the lane is cleared
when the reply is built. -/
def State.goodLane (body : List Byte) (l : LaneId) (rq : Request) (s : State) : State :=
  (s.clearCondition rq.originator l).answer rq .good body

/-- R126: the request is refused CHECK ATTENTION, which clears the attention and records nothing. -/
def State.refuseAttention (l : LaneId) (rq : Request) (s : State) : State :=
  (s.clearAttention rq.originator l).answer rq .check
    (attentionSense ((s.lane l).attentionOf rq.originator) none)

/-- R9: what a lane-scope request is checked for. `claims` is an acting request that takes the attention step and
not the ownership step. -/
inductive Access where
  | observing
  | claims
  | acting
deriving DecidableEq, Repr

/-- R9: the attention step is made for acting requests. -/
def Access.attends : Access → Bool
  | .observing => false
  | .claims => true
  | .acting => true

/-- R9: the ownership step is made for acting requests that are not claim requests. -/
def Access.owns : Access → Bool
  | .observing => false
  | .claims => false
  | .acting => true

/-- R9, steps 1 to 3, and then the owning block's handling of a lane-scope request. An acting request that follows a nest
event meets NEST_CHANGED at step 2 (R126, R159, R160), also where R68, R131, R160 or R164 names the outcome that the block
would give it; that one comes only once its requester has no attention pending (DEDUCED log 33). -/
def laneRequest (access : Access) (lengthOk : Nat → Bool) (handle : LaneId → Request → State → State)
    (rq : Request) (s : State) : State :=
  if h : rq.lane.toNat < 24 then
    let l : LaneId := ⟨rq.lane.toNat, h⟩
    if lengthOk rq.body.length = false then s.refuseForm .badLength rq
    else if access.attends = true ∧ (s.lane l).attentionOf rq.originator ≠ 0 then s.refuseAttention l rq
    else if access.owns = true ∧ (s.lane l).mayAct rq.originator = false then
      s.answer rq .conflict (conflictSense none)
    else handle l rq s
  else s.refuseForm .badLane rq

/-- R9 step 1, R10, and then the owning block's handling of a device-scope request. -/
def deviceRequest (lengthOk : Nat → Bool) (handle : Request → State → State) (rq : Request) (s : State) :
    State :=
  if rq.lane.toNat ≠ 255 then s.refuseForm .badLane rq
  else if lengthOk rq.body.length = false then s.refuseForm .badLength rq
  else handle rq s

/-- A body length that must be exactly `n`. -/
def exactly (n : Nat) (len : Nat) : Bool := decide (len = n)

/-! ### Meanings -/

/-- OUT_DATA_PACKET (R4, R6): where the pipe carries data and the receive buffer is empty, the packet is taken and
its bytes are received up to the next judgement; otherwise it is NAKed. -/
def execOutDataPacket (bytes : List Byte) (s : State) : Answer :=
  .next <|
    if s.pipesRun && s.rx.buf.isEmpty && decide (bytes.length ≤ Config.pipePacket) then
      (s.setRx (s.rx.withBuf bytes)).pump
    else s

/-- OUT_RESUME (R6): the OUT side goes on with the bytes held in the receive buffer. -/
def execOutResume (s : State) : Answer := .next s.pump

/-- FRAME_DISCARDED (R5): a frame that fails a frame check is dropped, and hunting resumes behind the byte that
showed it. With no bytes, the frame is the one whose last byte stands next in the receive buffer; otherwise the
bytes arrive now, and their last byte is the one that shows the failure (DESIGN CHOICE log 4). -/
def execFrameDiscarded (bytes : List Byte) (s : State) : Answer :=
  .next <|
    let t :=
      if bytes.isEmpty then s
      else if s.pipesRun && s.rx.buf.isEmpty then (s.setRx (s.rx.withBuf bytes)).pump
      else s
    if t.verdict = some .discard ∧ (bytes.isEmpty || t.rx.buf.length == 1) = true then
      (t.setRx t.rx.endFrame).pump
    else s

/-- UNKNOWN_REQUEST (R9): CHECK ILLEGAL/UNKNOWN_REQUEST, recorded for the scope of the lane byte. -/
def execUnknownRequest (o : Originator) (lane code tag : Byte) (body : List Byte) (s : State) : Answer :=
  .next <|
    if namesRequest code then s
    else arrive ⟨o, lane, code, tag, body⟩ (fun rq t => t.refuseForm .unknownRequest rq) s

end Sys2Proof.Machine
end

