-- ==== Sys2Proof/Machine/Arbiter.lean ====
section
/-! DEFINITION. The IN arbiter and the frame slots (R12 to R14, R18, R19): FRAME_BUILD, IN_TRANSFER_DONE,
PACING_TIMER_EXPIRY. -/

namespace Sys2Proof.Machine

/-- A slot holds a notice to `o`. -/
def noticeTo (o : Originator) : Option Frame → Bool
  | some (.notice dest _) => dest == o
  | some (.reply _) => false
  | some (.dataUp _ _ _) => false
  | none => false

/-- R18: the entries of an accumulator in ascending order of place, the device last. -/
def OriginatorState.entries (q : OriginatorState) : List (Fin 25 × NoticeEntry) :=
  (List.finRange 25).filterMap fun p => (q.accumulator[p]).map fun e => (p, e)

/-- R13, R19: an originator qualifies for a notice: its accumulator is not empty, its pacing timer is idle, and no
notice to it is in a slot. -/
def State.qualifies (s : State) (o : Originator) : Bool :=
  !(s.orig o).entries.isEmpty && (s.orig o).pacing.isNone && !noticeTo o s.transmitting && !noticeTo o s.staged

/-- R18: the notice of `o`: its whole accumulator, which is left empty. -/
def State.buildNotice (o : Originator) (s : State) : Frame × State :=
  (.notice o (s.orig o).entries,
   ({ s with served := o }).onOriginator o fun q => { q with accumulator := Vector.replicate 25 none })

/-- R13: the frame of the first source that has content. -/
def State.buildFrame (s : State) : Option (Frame × State) :=
  match s.ready with
  | r :: rest => some (.reply r, { s with ready := rest })
  | [] =>
    match firstAfter s.served s.qualifies with
    | some o => some (s.buildNotice o)
    | none =>
      match s.chooseLane with
      | some (l, t) => t.buildDataUp l
      | none => none

/-- R12: a built frame goes to the transmitting slot, or to the staged slot where that one is occupied. -/
def State.placeFrame (f : Frame) (s : State) : State :=
  match s.transmitting with
  | none => { s with transmitting := some f }
  | some _ => { s with staged := some f }

/-- R12: the arbiter may build a frame. -/
def State.slotFree (s : State) : Bool := s.transmitting.isNone || s.staged.isNone

/-- R14: what follows the completion of a frame's IN transfer. -/
def State.transferred (f : Frame) (s : State) : State :=
  match f with
  | .reply r =>
    if s.resetPending = true ∧ r.code = 0x02 ∧ r.status = .good then s.deviceReset true else s
  | .notice o _ =>
    s.onOriginator o fun q => { q with pacing := if q.interval = 0 then none else some (q.interval * 100) }
  | .dataUp _ l records => s.releaseUp (recordCells records) l

/-- FRAME_BUILD (R12, R13). -/
def execFrameBuild (s : State) : Answer :=
  .next <|
    if s.pipesRun && s.slotFree then
      match s.buildFrame with
      | some (f, t) => t.placeFrame f
      | none => s
    else s

/-- IN_TRANSFER_DONE (R12, R14): the staged frame moves up, and the effects of the frame that has left follow. -/
def execInTransferDone (s : State) : Answer :=
  .next <|
    if s.pipesRun then
      match s.transmitting with
      | some f => ({ s with transmitting := s.staged, staged := none }).transferred f
      | none => s
    else s

/-- PACING_TIMER_EXPIRY (R19): the timer becomes idle. -/
def execPacingTimerExpiry (o : Originator) (s : State) : Answer :=
  .next <|
    match (s.orig o).pacing with
    | some left => (s.advance left).onOriginator o fun q => { q with pacing := none }
    | none => s

end Sys2Proof.Machine
end

