-- ==== Sys2Proof/Machine/AttachEvents.lean ====
section
/-! DEFINITION. The line of a lane port (R25) and the attach (R29 to R33): LINE_STATE_CHANGE, CONNECT_DETECTION,
DISCONNECT_DETECTION, PORT_RESET_END, ENUMERATION_TRANSFER_DONE, ATTACH_RETRY_EXPIRY, IDENTITY_TRANSACTION_DONE,
IDENTITY_READ_TIMEOUT, ATTACH_TIMER_EXPIRY. -/

namespace Sys2Proof.Machine

/-! ### The line -/

/-- R25: the raw line comes to show a device, or breaks. A qualification runs while the line shows a device that is
not yet present; a break stops it. -/
def Link.lineChange (held shows : Bool) (n : Link) : Link :=
  { n with
    line := shows
    connectQual :=
      if held || n.connectPresent || !shows then none
      else if n.line then n.connectQual else some Config.connectQualUs }

/-- LINE_STATE_CHANGE (R25). -/
def execLineStateChange (l : LaneId) (shows : Bool) (s : State) : Answer :=
  .next (s.onLane l fun L => L.onLink (Link.lineChange s.hardReset shows))

/-- CONNECT_DETECTION (R25, R27): the qualification ends. -/
def execConnectDetection (l : LaneId) (s : State) : Answer :=
  .next <|
    match (s.lane l).link.connectQual with
    | none => s
    | some left =>
      ((s.advance left).onLane l fun L => L.onLink fun n =>
        { n with connectPresent := true, connectQual := none }).linkConnect l

/-- DISCONNECT_DETECTION (R25, R27): the device has gone. -/
def execDisconnectDetection (l : LaneId) (s : State) : Answer :=
  .next <|
    if (s.lane l).link.connectPresent then
      (s.onLane l fun L => L.onLink fun n =>
        { n with connectPresent := false, line := false, connectQual := none }).linkDisconnect l
    else s

/-! ### Attach phases -/

/-- An attach under way goes to a phase; its timer runs on. -/
def State.setPhase (p : AttachPhase) (l : LaneId) (s : State) : State :=
  s.onLane l fun L => L.onLink fun n =>
    match n.state with
    | .attaching a => { n with state := .attaching { a with phase := p } }
    | _ => n

/-- R29: the diagnostic function that an interface of configuration `value` is, if it is one: one bulk OUT and one bulk
IN endpoint, each of size `p` (DEDUCED log 16). -/
def diagnosticOf (p : Nat) (value : Byte) (i : Interface) : Option DiagFunction :=
  if i.cls = 0xFF ∧ i.subclass = 0x4D ∧ i.protocol = 0x02 then
    match i.outs, i.ins with
    | [o], [n] => if o.size = p ∧ n.size = p then some ⟨value, o.number, n.number⟩ else none
    | _, _ => none
  else none

/-- What an ENUMERATING transfer leads to (R29). -/
inductive EnumNext where
  | again
  | retry
  | stage (e : EnumStage)
  | identify
  | missing
  | impossible
deriving DecidableEq, Repr

/-- R29: configuration `i` of `n` is read next; with none left the diagnostic function is missing. -/
def nextConfiguration (i n : Nat) : EnumNext := if i < n then .stage (.configuration i n) else .missing

/-- R29: how the enumeration goes on. A transfer that is NAKed is repeated at once; one that meets a transport error
after 1 ms; a STALL or a descriptor that cannot be parsed means that the function is missing. Configurations are
searched in order, and the configuration of the first diagnostic function found is selected (DEDUCED log 16). -/
def enumNext (p : Nat) (stage : EnumStage) (r : EnumResult) : EnumNext :=
  match r, stage with
  | .nak, _ => .again
  | .transportError, _ => .retry
  | .stall, _ => .missing
  | .unparsable, _ => .missing
  | .device n, .device => .stage (.address n)
  | .addressed, .address n => nextConfiguration 0 n
  | .configuration value ifs, .configuration i n =>
    match ifs.findSome? (diagnosticOf p value) with
    | some found => .stage (.select found)
    | none => nextConfiguration (i + 1) n
  | .selected, .select _ => .identify
  | _, _ => .impossible

/-- R29: what an ENUMERATING transfer that is answered leaves in the link: address 1, or the selected function, whose two
endpoints become the lane's, with their data toggles at DATA0 (PRESUMED logs 23 and 29). -/
def Link.enumerated (stage : EnumStage) (r : EnumResult) (n : Link) : Link :=
  match r, stage with
  | .addressed, .address _ => { n with address := Config.phoneAddress }
  | .selected, .select found => { n with function := some found, outToggle := false, inToggle := false }
  | _, _ => n

/-- R29: the port reset has settled the speed; the phone is back at address 0 with no configuration (PRESUMED log
29). -/
def Link.resetDone (highSpeed : Bool) (n : Link) : Link :=
  { n with highSpeed := highSpeed, address := 0, function := none }

/-- PORT_RESET_END (R29): the phone's speed is settled and ENUMERATING begins. -/
def execPortResetEnd (l : LaneId) (highSpeed : Bool) (s : State) : Answer :=
  .next <|
    match (s.lane l).link.state with
    | .attaching ⟨_, .resetting left⟩ =>
      (((s.advance left).onLane l fun L => L.onLink (Link.resetDone highSpeed)).setPhase
        (.enumerating .device none) l)
    | _ => s

/-- ENUMERATION_TRANSFER_DONE (R29, R33). -/
def execEnumerationTransferDone (l : LaneId) (r : EnumResult) (s : State) : Answer :=
  .next <|
    match (s.lane l).link.state with
    | .attaching ⟨_, .enumerating stage none⟩ =>
      let t := s.onLane l fun L => L.onLink (Link.enumerated stage r)
      match enumNext (s.lane l).link.packetSize stage r with
      | .again => s
      | .retry => s.setPhase (.enumerating stage (some Config.errorRetryUs)) l
      | .stage e => t.setPhase (.enumerating e none) l
      | .identify => t.setPhase (.identifying .request none) l
      | .missing => t.attachFails 2 l
      | .impossible => s
    | _ => s

/-- ATTACH_RETRY_EXPIRY (R29, R30): the wait is over and the transfer is repeated. -/
def execAttachRetryExpiry (l : LaneId) (s : State) : Answer :=
  .next <|
    match (s.lane l).link.state with
    | .attaching ⟨_, .enumerating stage (some left)⟩ => (s.advance left).setPhase (.enumerating stage none) l
    | .attaching ⟨_, .identifying stage (some left)⟩ =>
      (s.advance left).setPhase (.identifying (stage.pass left) none) l
    | _ => s

/-! ### Reading a packet from the IN endpoint (R42), for the identity exchange and for polls -/

/-- What an accepted data packet makes of a packet being read (R42). -/
inductive ReadNext where
  | tooLong
  | repeated
  | more (p : Poll)
  | ended (bytes : List Byte) (count : Nat)
deriving DecidableEq, Repr

/-- R36, R42: a data packet longer than P is a transport error; one whose data toggle is not the awaited one is a
repetition, whose bytes have been taken (`fresh` says that it is none); one shorter than P ends the packet, and so do
2048 bytes; otherwise more data follow and the partial-packet timer (`timeout` ms) starts afresh. The first 1024
bytes are kept. -/
def Poll.accept (size timeout : Nat) (fresh : Bool) (data : List Byte) (p : Poll) : ReadNext :=
  let bytes := (p.bytes ++ data).take Config.handOver
  let count := p.count + data.length
  if size < data.length then .tooLong
  else if !fresh then .repeated
  else if data.length < size ∨ Config.packetCut ≤ count then .ended bytes count
  else .more { bytes := bytes, count := count, nakTimer := some (timeout * 1000) }

/-! ### The identity exchange -/

/-- R31: a valid identity answer as the record it gives; `none` where the answer is invalid. `count` is the length
of the packet the phone sent (DEDUCED log 28). -/
def parseIdentity (bytes : List Byte) (count : Nat) : Option Identity :=
  let n := byteAt bytes 5
  let m := byteAt bytes (6 + n)
  if 6 ≤ count ∧ (1 ≤ n ∧ n ≤ 32) ∧ 7 + n ≤ count ∧ m ≤ 48 ∧ count = 7 + n + m then
    some { model := BitVec.ofNat 16 (u16At bytes 1), agent := BitVec.ofNat 16 (u16At bytes 3)
           serial := (bytes.drop 6).take n, label := (bytes.drop (7 + n)).take m }
  else none

/-- R30, step 3: a complete packet is judged. One whose first byte is not 0xF1 is discarded and reading continues. -/
def State.judgeIdentity (bytes : List Byte) (count : Nat) (l : LaneId) (s : State) : State :=
  if bytes.head? = some 0xF1 then
    match parseIdentity bytes count with
    | some id => s.attachSucceeds id l
    | none => s.attachFails 3 l
  else s.setPhase (.identifying (.reading Poll.fresh) none) l

/-- R30, step 1: the end of a transaction of the identity request (its bytes: `LaneState.outTransaction`). -/
def State.identityRequest (r : OutResult) (l : LaneId) (s : State) : State :=
  match r with
  | .accepted => (s.tookOut l).setPhase (.identifying (.reading Poll.fresh) none) l
  | .nak => s
  | .transportError => s.setPhase (.identifying .request (some Config.errorRetryUs)) l
  | .stall => s.attachFails 4 l

/-- R30, step 2: the end of a transaction of the identity read, as R42 reads; transport errors are not counted and
wait 125 µs. -/
def State.identityRead (r : InResult) (p : Poll) (l : LaneId) (s : State) : State :=
  match r with
  | .data toggle bytes =>
    match p.accept (s.lane l).link.packetSize (s.lane l).options.sendTimeout (toggle == (s.lane l).link.inToggle) bytes with
    | .tooLong => s.setPhase (.identifying (.reading p) (some Config.nakWaitUs)) l
    | .repeated => s
    | .more q => (s.tookIn l).setPhase (.identifying (.reading q) none) l
    | .ended kept count => (s.tookIn l).judgeIdentity kept count l
  | .nak =>
    if p.count = 0 then s.setPhase (.identifying (.reading p) (some Config.nakWaitUs)) l else s
  | .transportError => s.setPhase (.identifying (.reading p) (some Config.nakWaitUs)) l
  | .stall => s.attachFails 4 l

/-- IDENTITY_TRANSACTION_DONE (R30 to R33). -/
def execIdentityTransactionDone (l : LaneId) (r : IdentityResult) (s : State) : Answer :=
  .next <|
    match (s.lane l).link.state with
    | .attaching ⟨_, .identifying stage none⟩ =>
      match stage, r with
      | .request, .request o => s.identityRequest o l
      | .reading p, .read i => s.identityRead i p l
      | .request, .read _ => s
      | .reading _, .request _ => s
    | _ => s

/-- IDENTITY_READ_TIMEOUT (R30): a partial packet is discarded, and reading continues. The timer also runs in the 125 µs
wait after a transport error and may run out there; what is left of the wait is then still waited (DEDUCED log 13). -/
def execIdentityReadTimeout (l : LaneId) (s : State) : Answer :=
  .next <|
    match (s.lane l).link.state with
    | .attaching ⟨_, .identifying (.reading ⟨_, _, some left⟩) retry⟩ =>
      (s.advance left).setPhase (.identifying (.reading Poll.fresh) (passTimer left retry)) l
    | _ => s

/-- ATTACH_TIMER_EXPIRY (R33): the attach fails with reason LIMIT. -/
def execAttachTimerExpiry (l : LaneId) (s : State) : Answer :=
  .next <|
    match (s.lane l).link.state with
    | .attaching a => (s.advance a.left).attachFails 1 l
    | _ => s

end Sys2Proof.Machine
end

