-- ==== Sys2Proof/Machine/ClaimRequests.lean ====
section
/-! DEFINITION. Lane ownership and the requests that report a lane: CLAIM_LANE, YIELD_LANE, BREAK_CLAIM (R104 to R107),
LANE_STATUS (R111), LANE_SENSE (R122), LANE_IDENTITY (R46). -/

namespace Sys2Proof.Machine

/-- A lane's claim entry becomes `c`. -/
def State.setClaim (c : Option Claim) (l : LaneId) (s : State) : State := s.onLane l fun L => { L with claim := c }

/-- R104: the beneficiary that a CLAIM_LANE names: the on-behalf-of byte, or the requester; `none` above 7. -/
def namedBeneficiary (rq : Request) : Option Originator :=
  match rq.body with
  | [] => some rq.originator
  | b :: _ => if h : b.toNat < 8 then some ⟨b.toNat, h⟩ else none

/-- R105: the reply body of CLAIM_LANE. -/
def claimBody (c : Claim) : List Byte :=
  le8 c.holder.val ++ le8 c.beneficiary.val ++ le32 c.time.toNat

/-- R104: CLAIM_LANE. The field check comes before the claim's own CONFLICT (DEDUCED log 11). -/
def handleClaimLane (l : LaneId) (rq : Request) (s : State) : State :=
  match namedBeneficiary rq with
  | none => s.refuseLane .badField l rq
  | some n =>
    match (s.lane l).claim with
    | none =>
      let c : Claim := { holder := rq.originator, beneficiary := n, time := s.timebase }
      (s.setClaim (some c) l).goodLane (claimBody c) l rq
    | some held =>
      if held.holder = rq.originator then
        let c : Claim := { held with beneficiary := n }
        (s.setClaim (some c) l).goodLane (claimBody c) l rq
      else s.answer rq .conflict (conflictSense none)

/-- R106: a YIELD_LANE releases the lane: the requester is the holder, and either the third-party flag is clear or
the beneficiary is another originator. -/
def yields (thirdParty : Bool) (o : Originator) : Option Claim → Bool
  | none => false
  | some c => c.holder == o && (!thirdParty || c.beneficiary != o)

/-- R106: YIELD_LANE. -/
def handleYieldLane (l : LaneId) (rq : Request) (s : State) : State :=
  if 1 < byteAt rq.body 0 then s.refuseLane .badField l rq
  else if yields (byteAt rq.body 0 == 1) rq.originator (s.lane l).claim then
    (s.setClaim none l).goodLane (leFlag true) l rq
  else s.goodLane (leFlag false) l rq

/-- R107: BREAK_CLAIM: attention for all eight, the event under the old claim, FREE, the reply. -/
def handleBreakClaim (l : LaneId) (rq : Request) (s : State) : State :=
  match (s.lane l).claim with
  | none => s.goodLane (leFlag false ++ le8 0xFF ++ le8 0xFF) l rq
  | some c =>
    (((s.setAttention causeClaimBroken l).offerLane .claimBroken l).setClaim none l).goodLane
      (leFlag true ++ le8 c.holder.val ++ le8 c.beneficiary.val) l rq

/-! ### Reports -/

/-- R111: the claim fields of LANE_STATUS. -/
def claimStatus : Option Claim → List Byte
  | none => le8 0 ++ le8 0xFF ++ le8 0xFF ++ le32 0
  | some c => le8 1 ++ le8 c.holder.val ++ le8 c.beneficiary.val ++ le32 c.time.toNat

/-- R111: the 33-byte body of LANE_STATUS. -/
def laneStatusBody (squeezed : Bool) (L : LaneState) : List Byte :=
  claimStatus L.claim ++ le8 L.link.state.code ++ le16 L.link.epoch.toNat ++ le8 L.link.out.code ++
    le8 L.link.inn.code ++ le16 L.occupancy ++ le8 L.send.queue.length ++ leFlag L.send.halted ++
    leFlag L.flowHeld ++ leFlag squeezed ++ le8 L.upstream.drops ++ le32 L.upstream.damaged.toNat ++
    le32 L.upstream.counted.toNat ++ le16 L.link.recovered ++ le8 L.supply.state.code ++
    le8 L.strokes.state.code ++ leFlag L.nest.seated ++ leFlag L.keep

/-- R111: LANE_STATUS changes no state. -/
def handleLaneStatus (l : LaneId) (rq : Request) (s : State) : State :=
  s.answer rq .good (laneStatusBody s.squeezed (s.lane l))

/-- R122: the fields of a lane record that LANE_SENSE reports first: key, code, residual, further count, recording
time and recording epoch. -/
def laneSenseFields (r : Sense) : List Byte :=
  match r.held with
  | none => le8 0 ++ le8 0 ++ residualBytes none ++ le8 r.further ++ le32 0 ++ le16 0
  | some h =>
    le8 h.cond.key ++ le8 h.cond.code ++ residualBytes h.cond.residual ++ le8 r.further ++
      le32 h.time.toNat ++ le16 (h.epoch.getD 0).toNat

/-- R122: the 17-byte body of LANE_SENSE. -/
def laneSenseBody (o : Originator) (L : LaneState) : List Byte :=
  laneSenseFields L.sense[o] ++ leFlag (L.attentionOf o != 0) ++ [L.attentionOf o] ++
    le16 L.link.recovered ++ le16 L.link.epoch.toNat

/-- R122: LANE_SENSE reports the requester's record and clears it, attention included; the beneficiary's also
returns the recovered count to 0 (R124). -/
def handleLaneSense (l : LaneId) (rq : Request) (s : State) : State :=
  (s.onLane l fun L =>
    (L.onSense rq.originator fun r => r.clear.clearCauses).onLink fun n =>
      { n with recovered := if L.benefits rq.originator then 0 else n.recovered }).answer rq .good
    (laneSenseBody rq.originator (s.lane l))

/-- R46: the body of LANE_IDENTITY. -/
def identityBody (n : Link) : List Byte :=
  le8 n.state.code ++ le16 n.epoch.toNat ++
    match n.identity with
    | none => leFlag false
    | some id =>
      leFlag true ++ le16 id.model.toNat ++ le16 id.agent.toNat ++ le8 id.serial.length ++ id.serial ++
        le8 id.label.length ++ id.label

/-- R46: LANE_IDENTITY changes no state. -/
def handleLaneIdentity (l : LaneId) (rq : Request) (s : State) : State :=
  s.answer rq .good (identityBody (s.lane l).link)

/-! ### Meanings -/

/-- CLAIM_LANE (R104), with an empty body or one of 1 byte. -/
def execClaimLane (o : Originator) (lane tag : Byte) (body : List Byte) (s : State) : Answer :=
  .next (arrive ⟨o, lane, 0x10, tag, body⟩ (laneRequest .claims (fun n => decide (n ≤ 1)) handleClaimLane) s)

/-- YIELD_LANE (R106), with a body of 1 byte. -/
def execYieldLane (o : Originator) (lane tag : Byte) (body : List Byte) (s : State) : Answer :=
  .next (arrive ⟨o, lane, 0x11, tag, body⟩ (laneRequest .claims (exactly 1) handleYieldLane) s)

/-- BREAK_CLAIM (R107), with an empty body. -/
def execBreakClaim (o : Originator) (lane tag : Byte) (body : List Byte) (s : State) : Answer :=
  .next (arrive ⟨o, lane, 0x12, tag, body⟩ (laneRequest .claims (exactly 0) handleBreakClaim) s)

/-- LANE_STATUS (R111), an observing request with an empty body. -/
def execLaneStatus (o : Originator) (lane tag : Byte) (body : List Byte) (s : State) : Answer :=
  .next (arrive ⟨o, lane, 0x13, tag, body⟩ (laneRequest .observing (exactly 0) handleLaneStatus) s)

/-- LANE_SENSE (R122), an observing request with an empty body. -/
def execLaneSense (o : Originator) (lane tag : Byte) (body : List Byte) (s : State) : Answer :=
  .next (arrive ⟨o, lane, 0x14, tag, body⟩ (laneRequest .observing (exactly 0) handleLaneSense) s)

/-- LANE_IDENTITY (R46), an observing request with an empty body. -/
def execLaneIdentity (o : Originator) (lane tag : Byte) (body : List Byte) (s : State) : Answer :=
  .next (arrive ⟨o, lane, 0x15, tag, body⟩ (laneRequest .observing (exactly 0) handleLaneIdentity) s)

end Sys2Proof.Machine
end

