-- ==== Sys2Proof/Machine/StrokeOps.lean ====
section
/-! DEFINITION. The stroke unit's shared operations: a step start (R151), what follows a step (R152, R153), and
the stop that STOP_STROKES, LANE_RESET and an emptied nest share (R154, R155). -/

namespace Sys2Proof.Machine

/-- R151, step 5: STROKES_LOW is due. -/
def Strokes.lowDue (k : Strokes) : Bool := k.lowArmed && k.queue.length == k.lowMark

/-- R151, steps 1 to 3: the head step becomes the current step and its keys are driven. -/
def Strokes.begin (st : Step) (rest : List Step) (k : Strokes) : Strokes :=
  { k with
    queue := rest
    state := .step st (st.duration * 1000)
    stepNumber := min 65535 (k.stepNumber + 1)
    keyA := st.keyA
    keyB := st.keyB }

/-- R151: the step at the head of the queue starts. (An empty queue has no step to start: DESIGN CHOICE log 22.) -/
def State.startStep (l : LaneId) (s : State) : State :=
  match (s.lane l).strokes.queue with
  | [] => s
  | st :: rest =>
    let k := (s.lane l).strokes.begin st rest
    let t := s.onLane l fun L =>
      ({ L with strokes := { k with lowArmed := k.lowArmed && !k.lowDue } }).onSupply
        (Supply.fireOn (hitsStep k.stepNumber))
    if k.lowDue then t.offerLane .strokesLow l else t

/-- R153: a step has ended with the queue empty. -/
def State.endRun (l : LaneId) (s : State) : State :=
  (s.onLane l fun L => L.onStrokes fun k => { k with state := .idle, keyA := false, keyB := false }).offerLane
    .strokesDone l

/-- R152: two steps share a key. -/
def Step.sharesKey (a b : Step) : Bool := (a.keyA && b.keyA) || (a.keyB && b.keyB)

/-- R152: what follows the end of `ending`. A shared key without TIE is lifted for the release gap; in every other
case the next step starts at once, and its start drives its keys and no others. -/
def State.afterStep (ending : Step) (l : LaneId) (s : State) : State :=
  match (s.lane l).strokes.queue with
  | [] => s.endRun l
  | next :: _ =>
    if next.tie = false ∧ ending.sharesKey next = true then
      s.onLane l fun L => L.onStrokes fun k =>
        { k with state := .gap (k.gap * 1000), keyA := false, keyB := false }
    else s.startStep l

/-- R154: the strokes of a lane are stopped, by their state. -/
def Strokes.stop (k : Strokes) : Strokes :=
  match k.state with
  | .idle => { k with queue := [] }
  | .stopping _ => { k with queue := [] }
  | .pending _ _ | .step _ _ | .gap _ =>
    { k with queue := [], state := .stopping Config.retractUs, keyA := false, keyB := false }

/-- R147, R148, R150: the low-mark armed flag says whether the queue count is above the low mark. -/
def Strokes.rearm (k : Strokes) : Strokes := { k with lowArmed := decide (k.lowMark < k.queue.length) }

/-- R150: the µs from a timebase value to the start instant: the next whole millisecond, or the wrap to 0 where
that comes first. So also at exactly 4,294,967,000, where the wrap is 296 µs away: R150 says "after" that value, and that a
request on a whole millisecond starts 1000 µs later (DEDUCED log 32). -/
def toStartInstant (t : Stamp) : Nat := min (1000 - t.toNat % 1000) (2 ^ 32 - t.toNat)

end Sys2Proof.Machine
end

