-- ==== Sys2Proof/Machine/DeviceRequests.lean ====
section
/-! DEFINITION. Device-scope requests: DEVICE_STATUS, DEVICE_RESET (R21, R22), CONFIGURE_POOL (R61),
SET_CLASS_ACTIONS, READ_CLASS_ACTIONS (R96, R97), OPEN_NOTICES, CLOSE_NOTICES (R15), SET_PACING (R19),
START_STROKES (R127, R149, R150), DEVICE_SENSE (R123). -/

namespace Sys2Proof.Machine

/-! ### DEVICE_STATUS, DEVICE_RESET -/

/-- R21: the 41-byte body. The request's own entry is RESERVED while it is carried out. -/
def State.deviceStatusBody (s : State) : List Byte :=
  le32 s.timebase.toNat ++ le8 Config.revision ++ le16 s.downCells ++ le16 s.upCells ++ le8 s.reserve ++
    le16 s.sharedPool ++ le16 s.totalBorrowing ++ leFlag s.squeezed ++
    (s.lanes.toList.map fun L => BitVec.ofNat 8 L.link.state.code) ++ le16 (s.freeEntries - 1)

/-- R21: DEVICE_STATUS is answered. -/
def handleDeviceStatus (rq : Request) (s : State) : State := s.answer rq .good s.deviceStatusBody

/-- R22: DEVICE_RESET is answered, and the station link is in reset-pending. -/
def handleDeviceReset (rq : Request) (s : State) : State := ({ s with resetPending := true }).answer rq .good []

/-! ### CONFIGURE_POOL -/

/-- R61, step 1: the applied D. -/
def poolD (requested : Nat) : Nat := clamp 256 1792 requested / 64 * 64
/-- R61, step 1: the applied G. -/
def poolG (requested : Nat) : Nat := clamp 0 32 requested

/-- A frame slot holds a DATA_UP frame. -/
def holdsDataUp : Option Frame → Bool
  | some (.dataUp _ _ _) => true
  | some (.reply _) => false
  | some (.notice _ _) => false
  | none => false

/-- R61, step 3: the packet memory is wholly free. -/
def State.memoryFree (s : State) : Bool :=
  (s.lanes.toList.all fun L => L.sends.isEmpty && L.upstream.queue.isEmpty) &&
    !holdsDataUp s.transmitting && !holdsDataUp s.staged

/-- R61, step 4: the split is applied, flow holds are evaluated, and a squeeze ends. -/
def State.applySplit (d g : Nat) (s : State) : State :=
  let t := ({ s with downCells := d, reserve := g }).onLanes fun _ L => L.holdAfterOptions
  if s.squeezed then ({ t with squeezed := false }).offerDevice .poolRelief else t

/-- R61: CONFIGURE_POOL. -/
def handleConfigurePool (rq : Request) (s : State) : State :=
  let d := poolD (u16At rq.body 0)
  let g := poolG (byteAt rq.body 2)
  let u := Config.cells - d
  if u < Config.lanes * g then s.refuseDevice (.poolSplit (u / Config.lanes)) rq
  else if s.memoryFree = false then s.refuseDevice .poolInUse rq
  else (s.applySplit d g).answer rq .good (le16 d ++ le16 u ++ le8 g ++ le16 (u - Config.lanes * g))

/-! ### The class table -/

/-- The actions that bytes name; `none` if one of them names none (R96). -/
def actionsOf : List Byte → Option (List ClassAction)
  | [] => some []
  | b :: bs =>
    match ClassAction.ofCode b.toNat, actionsOf bs with
    | some a, some as => some (a :: as)
    | some _, none => none
    | none, _ => none

/-- R96: the class table with a run of actions written from `first` on; what falls past class 255 has no entry. -/
def writeActions (first : Nat) (as : List ClassAction) (t : Vector ClassAction 256) : Vector ClassAction 256 :=
  Vector.ofFn fun i => if first ≤ i.val then as.getD (i.val - first) t[i] else t[i]

/-- R96: SET_CLASS_ACTIONS. -/
def handleSetClassActions (rq : Request) (s : State) : State :=
  let first := byteAt rq.body 0
  match actionsOf (rq.body.drop 1) with
  | none => s.refuseDevice .badField rq
  | some as =>
    ({ s with classes := writeActions first as s.classes }).answer rq .good
      (le8 first ++ le16 (min as.length (256 - first)))

/-- R97: the applied count of READ_CLASS_ACTIONS. -/
def readCount (first count : Nat) : Nat := min (clamp 1 256 count) (256 - first)

/-- R97: READ_CLASS_ACTIONS. -/
def handleReadClassActions (rq : Request) (s : State) : State :=
  let first := byteAt rq.body 0
  let n := readCount first (u16At rq.body 1)
  s.answer rq .good (le8 first ++ le16 n ++
    ((s.classes.toList.drop first).take n).map fun a => BitVec.ofNat 8 a.code)

/-! ### Notices and pacing -/

/-- R15: the event set of a notice request, `none` where bit 14 or 15 is set or watch is neither 0 nor 1. -/
def noticeFields (body : List Byte) : Option (BitVec 16 × Bool) :=
  if u16At body 0 < 0x4000 ∧ byteAt body 2 ≤ 1 then some (BitVec.ofNat 16 (u16At body 0), byteAt body 2 == 1)
  else none

/-- R15: OPEN_NOTICES on an originator's mask. -/
def OriginatorState.openNotices (events : BitVec 16) (watch : Bool) (q : OriginatorState) : OriginatorState :=
  { q with mask := q.mask ||| events, watch := q.watch || watch }

/-- R15: an accumulator entry after events are closed; it is removed when its event set becomes empty. -/
def closeEntry (events : BitVec 16) : Option NoticeEntry → Option NoticeEntry
  | none => none
  | some e => if e.events &&& ~~~events = 0 then none else some { e with events := e.events &&& ~~~events }

/-- R15: CLOSE_NOTICES on an originator's mask and accumulator. -/
def OriginatorState.closeNotices (events : BitVec 16) (watch : Bool) (q : OriginatorState) : OriginatorState :=
  { q with
    mask := q.mask &&& ~~~events
    watch := q.watch && !watch
    accumulator := Vector.ofFn fun p => closeEntry events q.accumulator[p] }

/-- R15: the reply body of both notice requests. -/
def OriginatorState.noticeBody (q : OriginatorState) : List Byte := le16 q.mask.toNat ++ leFlag q.watch

/-- R15: OPEN_NOTICES. -/
def handleOpenNotices (rq : Request) (s : State) : State :=
  match noticeFields rq.body with
  | none => s.refuseDevice .badField rq
  | some (events, watch) =>
    (s.onOriginator rq.originator (OriginatorState.openNotices events watch)).answer rq .good
      ((s.orig rq.originator).openNotices events watch).noticeBody

/-- R15: CLOSE_NOTICES. -/
def handleCloseNotices (rq : Request) (s : State) : State :=
  match noticeFields rq.body with
  | none => s.refuseDevice .badField rq
  | some (events, watch) =>
    (s.onOriginator rq.originator (OriginatorState.closeNotices events watch)).answer rq .good
      ((s.orig rq.originator).closeNotices events watch).noticeBody

/-- R19: SET_PACING; a timer that runs keeps its expiry. -/
def handleSetPacing (rq : Request) (s : State) : State :=
  (s.onOriginator rq.originator fun q => { q with interval := u16At rq.body 0 }).answer rq .good
    (le16 (u16At rq.body 0))

/-! ### START_STROKES -/

/-- R149: the lanes that a lane set names, ascending. -/
def namedLanes (set : Nat) : List LaneId := (List.finRange 24).filter fun l => set.testBit l.val

/-- R127: the named lanes on which the requester has attention pending. -/
def State.attentionLanes (s : State) (o : Originator) (ls : List LaneId) : List LaneId :=
  ls.filter fun l => (s.lane l).attentionOf o != 0

/-- R127: the union of the cause sets of some lanes. -/
def State.causesOf (s : State) (o : Originator) (ls : List LaneId) : BitVec 8 :=
  ls.foldl (fun c l => c ||| (s.lane l).attentionOf o) 0

/-- R149, test 3: a lane that is not IDLE or whose queue is empty fails. -/
def LaneState.strokesBusy (L : LaneState) : Bool := L.strokes.state != .idle || L.strokes.queue.isEmpty

/-- R150: a named lane becomes RUNNING with the pending start. -/
def Strokes.startPending (instant : Stamp) (left : Nat) (k : Strokes) : Strokes :=
  { k with state := .pending instant left, stepNumber := 0, lowArmed := decide (k.lowMark < k.queue.length) }

/-- R150: the start instant of a request carried out at a timebase value. -/
def startInstantOf (t : Stamp) : Stamp := t + BitVec.ofNat 32 (toStartInstant t)

/-- R121, R150: what START_STROKES does on each named lane: the pending start, and the clearing of the requester's
condition. -/
def State.startLanes (o : Originator) (ls : List LaneId) (s : State) : State :=
  ls.foldl (fun t l => (t.onLane l fun L =>
    L.onStrokes (Strokes.startPending (startInstantOf s.timebase) (toStartInstant s.timebase))).clearCondition o l) s

/-- R149: START_STROKES: the four tests, each across every named lane, and then R150. A request that follows the emptying of
a named lane's nest meets NEST_CHANGED at the first test (R159, R160), and NEST_EMPTY, of which R155 speaks, only once its
requester has no attention pending there (DEDUCED log 33). -/
def handleStartStrokes (rq : Request) (s : State) : State :=
  let set := u24At rq.body 0
  let ls := namedLanes set
  let o := rq.originator
  if ls = [] then s.refuseDevice .badField rq
  else
    match s.attentionLanes o ls with
    | l :: more =>
      ((l :: more).foldl (fun t k => t.clearAttention o k) s).answer rq .check
        (attentionSense (s.causesOf o (l :: more)) (some l.val))
    | [] =>
      match ls.find? fun l => !(s.lane l).mayAct o with
      | some l => s.answer rq .conflict (conflictSense (some l.val))
      | none =>
        match ls.find? fun l => (s.lane l).strokesBusy with
        | some l => s.refuseDevice (.strokesBusy l.val) rq
        | none =>
          match ls.find? fun l => !(s.lane l).nest.seated with
          | some l => s.refuseDevice (.nestEmpty (some l.val)) rq
          | none =>
            (s.startLanes o ls).answer rq .good (le32 (startInstantOf s.timebase).toNat ++ le24 set)

/-! ### DEVICE_SENSE -/

/-- R122, R123: key, code, residual, further count and recording time of a record; absent fields read 0, an absent
residual 0xFFFF. -/
def Sense.body (r : Sense) : List Byte :=
  match r.held with
  | none => le8 0 ++ le8 0 ++ residualBytes none ++ le8 r.further ++ le32 0
  | some h =>
    le8 h.cond.key ++ le8 h.cond.code ++ residualBytes h.cond.residual ++ le8 r.further ++ le32 h.time.toNat

/-- R123: DEVICE_SENSE reports the requester's device record and clears it. -/
def handleDeviceSense (rq : Request) (s : State) : State :=
  ({ s with deviceSense :=
      s.deviceSense.set rq.originator (Sense.clear s.deviceSense[rq.originator]) }).answer rq .good
    (Sense.body s.deviceSense[rq.originator])

/-! ### Meanings -/

/-- DEVICE_STATUS (R21), an observing request with an empty body. -/
def execDeviceStatus (o : Originator) (lane tag : Byte) (body : List Byte) (s : State) : Answer :=
  .next (arrive ⟨o, lane, 0x01, tag, body⟩ (deviceRequest (exactly 0) handleDeviceStatus) s)

/-- DEVICE_RESET (R22), with an empty body. -/
def execDeviceReset (o : Originator) (lane tag : Byte) (body : List Byte) (s : State) : Answer :=
  .next (arrive ⟨o, lane, 0x02, tag, body⟩ (deviceRequest (exactly 0) handleDeviceReset) s)

/-- CONFIGURE_POOL (R61), with a body of 3 bytes. -/
def execConfigurePool (o : Originator) (lane tag : Byte) (body : List Byte) (s : State) : Answer :=
  .next (arrive ⟨o, lane, 0x03, tag, body⟩ (deviceRequest (exactly 3) handleConfigurePool) s)

/-- SET_CLASS_ACTIONS (R96), with a body of 2 to 257 bytes. -/
def execSetClassActions (o : Originator) (lane tag : Byte) (body : List Byte) (s : State) : Answer :=
  .next (arrive ⟨o, lane, 0x04, tag, body⟩
    (deviceRequest (fun n => decide (2 ≤ n) && decide (n ≤ 257)) handleSetClassActions) s)

/-- READ_CLASS_ACTIONS (R97), an observing request with a body of 3 bytes. -/
def execReadClassActions (o : Originator) (lane tag : Byte) (body : List Byte) (s : State) : Answer :=
  .next (arrive ⟨o, lane, 0x05, tag, body⟩ (deviceRequest (exactly 3) handleReadClassActions) s)

/-- OPEN_NOTICES (R15), with a body of 3 bytes. -/
def execOpenNotices (o : Originator) (lane tag : Byte) (body : List Byte) (s : State) : Answer :=
  .next (arrive ⟨o, lane, 0x06, tag, body⟩ (deviceRequest (exactly 3) handleOpenNotices) s)

/-- CLOSE_NOTICES (R15), with a body of 3 bytes. -/
def execCloseNotices (o : Originator) (lane tag : Byte) (body : List Byte) (s : State) : Answer :=
  .next (arrive ⟨o, lane, 0x07, tag, body⟩ (deviceRequest (exactly 3) handleCloseNotices) s)

/-- SET_PACING (R19), with a body of 2 bytes. -/
def execSetPacing (o : Originator) (lane tag : Byte) (body : List Byte) (s : State) : Answer :=
  .next (arrive ⟨o, lane, 0x08, tag, body⟩ (deviceRequest (exactly 2) handleSetPacing) s)

/-- START_STROKES (R149), with a body of 3 bytes. -/
def execStartStrokes (o : Originator) (lane tag : Byte) (body : List Byte) (s : State) : Answer :=
  .next (arrive ⟨o, lane, 0x09, tag, body⟩ (deviceRequest (exactly 3) handleStartStrokes) s)

/-- DEVICE_SENSE (R123), an observing request with an empty body. -/
def execDeviceSense (o : Originator) (lane tag : Byte) (body : List Byte) (s : State) : Answer :=
  .next (arrive ⟨o, lane, 0x0A, tag, body⟩ (deviceRequest (exactly 0) handleDeviceSense) s)

end Sys2Proof.Machine
end

