-- ==== Sys2Proof/Machine/FixtureEvents.lean ====
section
/-! DEFINITION. Events of the collector, the supply monitor, the stroke unit and the nest and lamp unit:
PACK_TIMER_EXPIRY (R91), SAMPLE_EVENT (R132), START_INSTANT (R150), STEP_END, RELEASE_GAP_END (R152), RETRACT_END
(R154), NEST_INPUT_CHANGE, NEST_QUALIFICATION_END (R157 to R159), ACTIVITY_TIMER_EXPIRY (R162). -/

namespace Sys2Proof.Machine

/-- PACK_TIMER_EXPIRY (R91, R92): the timer becomes idle and the lane eligible. -/
def execPackTimerExpiry (l : LaneId) (s : State) : Answer :=
  .next <|
    match (s.lane l).upstream.packTimer with
    | some left =>
      (s.advance left).onLane l fun L => L.onUpstream fun u =>
        { u with packTimer := none, eligible := !u.queue.isEmpty || u.eligible }
    | none => s

/-- R132: a lane's sample event: the active window first (an ARMED NOW window fires and takes this sample), then the
trip logic. -/
def State.sample (v : Nat) (l : LaneId) (s : State) : State :=
  ((s.onLane l fun L => L.onSupply (Supply.fireOn hitsNow)).windowSample v l).tripSample v l

/-- SAMPLE_EVENT (R132): the time of the lane's next sample has come. -/
def execSampleEvent (l : LaneId) (v : Fin 4096) (s : State) : Answer :=
  .next <|
    match (s.lane l).supply.nextSample with
    | some left =>
      let t := s.advance left
      (t.sample v.val l).onLane l fun L => L.onSupply fun u =>
        { u with nextSample := some (toNextSample t.timebase) }
    | none => s

/-- START_INSTANT (R150): the lane's pending start has come, and its first step starts. -/
def execStartInstant (l : LaneId) (s : State) : Answer :=
  .next <|
    match (s.lane l).strokes.state with
    | .pending _ left => (s.advance left).startStep l
    | _ => s

/-- STEP_END (R152, R153). -/
def execStepEnd (l : LaneId) (s : State) : Answer :=
  .next <|
    match (s.lane l).strokes.state with
    | .step current left => (s.advance left).afterStep current l
    | _ => s

/-- RELEASE_GAP_END (R152): the step at the head of the queue starts. -/
def execReleaseGapEnd (l : LaneId) (s : State) : Answer :=
  .next <|
    match (s.lane l).strokes.state with
    | .gap left => (s.advance left).startStep l
    | _ => s

/-- R154: the reply that a STOP_STROKES has waited for, with the clearing of its requester's condition. -/
def State.answerStop (l : LaneId) (w : StopWait) (s : State) : State :=
  (s.clearCondition w.originator l).pushReply
    ⟨w.originator, laneByte l, 0x39, w.tag, .good, le8 w.former ++ le8 w.cleared⟩

/-- RETRACT_END (R154): the lane becomes IDLE, and the waiting replies become READY in the order in which their
requests were carried out. -/
def execRetractEnd (l : LaneId) (s : State) : Answer :=
  .next <|
    match (s.lane l).strokes.state with
    | .stopping left =>
      (s.lane l).strokes.waiting.foldl (fun t w => t.answerStop l w)
        ((s.advance left).onLane l fun L => L.onStrokes fun k => { k with state := .idle, waiting := [] })
    | _ => s

/-- R157: the raw input takes a level. A qualification starts when it comes to differ from the debounced state, and
stops when it comes to agree. -/
def Nest.input (held raw : Bool) (n : Nest) : Nest :=
  { n with
    raw := raw
    qual :=
      if held || raw == n.seated then none
      else if raw == n.raw then n.qual else some Config.nestQualUs }

/-- NEST_INPUT_CHANGE (R157). -/
def execNestInputChange (l : LaneId) (seated : Bool) (s : State) : Answer :=
  .next (s.onLane l fun L => { L with nest := L.nest.input s.hardReset seated })

/-- R158: the seated event. -/
def State.nestSeated (l : LaneId) (s : State) : State :=
  ((s.linkNestSeated l).setAttention causeNestChanged l).offerLane .nestSeated l

/-- R155: the stroke unit's part of an emptied nest. -/
def State.strokesNestEmptied (l : LaneId) (s : State) : State :=
  match (s.lane l).strokes.state with
  | .idle => s
  | _ => (s.onLane l fun L => L.onStrokes Strokes.stop).recordAsync .nestEmptiedStroking l

/-- R159, step 4: keep. -/
def State.keepNestEmptied (l : LaneId) (s : State) : State :=
  if (s.lane l).keep then (s.recordAsync .removedWhileKept l).onLane l fun L => { L with keep := false } else s

/-- R159: the emptied event: link, supply and window, strokes, keep, attention, event, in that order. -/
def State.nestEmptied (l : LaneId) (s : State) : State :=
  (((((((s.linkNestEmptied l).onLane l fun L => L.onSupply Supply.nestEmptied).abortOnEmptied
    l).strokesNestEmptied l).keepNestEmptied l).setAttention causeNestChanged l).offerLane .nestEmptied l)

/-- NEST_QUALIFICATION_END (R157 to R159): the debounced state takes the raw level. -/
def execNestQualificationEnd (l : LaneId) (s : State) : Answer :=
  .next <|
    match (s.lane l).nest.qual with
    | some left =>
      let t := (s.advance left).onLane l fun L => { L with nest := { L.nest with seated := L.nest.raw, qual := none } }
      if (s.lane l).nest.raw then t.nestSeated l else t.nestEmptied l
    | none => s

/-- ACTIVITY_TIMER_EXPIRY (R162): the timer becomes idle. -/
def execActivityTimerExpiry (l : LaneId) (s : State) : Answer :=
  .next <|
    match (s.lane l).activity with
    | some left => (s.advance left).onLane l fun L => { L with activity := none }
    | none => s

end Sys2Proof.Machine
end

