-- ==== Sys2Proof/Machine/SendRequests.lean ====
section
/-! DEFINITION. Requests on the send queue and the lane reset: SEND_PACKET (R67, R51), RESUME_SEND (R76), FLUSH_LANE
(R77, R78), LANE_RESET (R80, R81). -/

namespace Sys2Proof.Machine

/-- R66, R67: the record of an accepted SEND_PACKET. -/
def sendRecordOf (rq : Request) (epoch : BitVec 16) : SendRecord :=
  { sender := rq.originator, tag := rq.tag, chain := byteAt rq.body 0 == 1, data := rq.body.drop 1, epoch := epoch }

/-- R51: the accountant's acceptance test. -/
def State.acceptsSend (l : LaneId) (r : SendRecord) (s : State) : Bool :=
  decide ((s.lane l).send.queue.length < Config.sendQueueMax) && decide (s.downHeld + r.cells ≤ s.downCells)

/-- R67: SEND_PACKET. An accepted request's entry stays RESERVED: no reply is built. R68's LINK_NOT_UP comes after the attention
of the nest event that has ended the link (DEDUCED log 33). -/
def handleSendPacket (l : LaneId) (rq : Request) (s : State) : State :=
  let r := sendRecordOf rq (s.lane l).link.epoch
  if 1 < byteAt rq.body 0 then s.refuseLane .badField l rq
  else if (s.lane l).link.state ≠ .up then s.refuseLane (.linkNotUp (s.lane l).link.state.code) l rq
  else if s.acceptsSend l r = false then s.refuseLane (.downFull (s.downCells - s.downHeld)) l rq
  else (s.takeDown r.cells).onLane l fun L => { L with send := { L.send with queue := L.send.queue ++ [r] } }

/-- The send-halted flag of a lane becomes `b` (R73, R76). -/
def State.setHalted (b : Bool) (l : LaneId) (s : State) : State :=
  s.onLane l fun L => { L with send := { L.send with halted := b } }

/-- R76: RESUME_SEND. The start it allows is SEND_START (DESIGN CHOICE log 19). -/
def handleResumeSend (l : LaneId) (rq : Request) (s : State) : State :=
  (s.setHalted false l).goodLane (leFlag (s.lane l).send.halted) l rq

/-- R77: the DOWN part of a flush: queued sends end FLUSHED, oldest first, and the halt is cleared. -/
def State.flushDown (l : LaneId) (s : State) : State :=
  (s.onLane l fun L => { L with send := { queue := [], halted := false } }).cancelSends .flushed l
    (s.lane l).send.queue

/-- R77, R78: the reply body of FLUSH_LANE. -/
def flushBody (sends packets cells : Nat) (halted : Bool) : List Byte :=
  le8 sends ++ le16 packets ++ le16 cells ++ leFlag halted

/-- R77, R78: FLUSH_LANE by its scope: 1 DOWN, 2 UP, 3 BOTH. -/
def handleFlushLane (l : LaneId) (rq : Request) (s : State) : State :=
  let L := s.lane l
  let up := L.upstream.queue
  match byteAt rq.body 0 with
  | 1 => (s.flushDown l).goodLane (flushBody L.send.queue.length 0 0 false) l rq
  | 2 => (s.discardUpstream l).goodLane (flushBody 0 up.length (recordCells up) L.send.halted) l rq
  | 3 =>
    ((s.flushDown l).discardUpstream l).goodLane
      (flushBody L.send.queue.length up.length (recordCells up) false) l rq
  | _ => s.refuseLane .badField l rq

/-- R80: the send queue's part of LANE_RESET: the send in flight and the queued sends end ABORTED/LANE_RESET, and the
halt is cleared. -/
def State.resetSends (l : LaneId) (s : State) : State :=
  (s.onLane l fun L =>
    { L with link := { L.link with out := .idle }, send := { queue := [], halted := false } }).cancelSends
    .laneReset l (s.lane l).sends

/-- R81: the other blocks' part of LANE_RESET, but for the link: upstream queue, drop counter, strokes, windows. -/
def State.resetFixture (l : LaneId) (s : State) : State :=
  (s.discardUpstream l).onLane l fun L =>
    { L with
      upstream := { L.upstream with drops := 0 }
      strokes := L.strokes.stop
      supply := { L.supply with active := .idle, staged := none, result := none } }

/-- R80, R81: LANE_RESET. -/
def handleLaneReset (l : LaneId) (rq : Request) (s : State) : State :=
  let t := ((s.resetSends l).linkLaneReset l).resetFixture l
  t.goodLane (le8 (t.lane l).link.state.code ++ le8 (s.lane l).sends.length) l rq

/-! ### Meanings -/

/-- SEND_PACKET (R67), with a body of 1 to 1025 bytes. -/
def execSendPacket (o : Originator) (lane tag : Byte) (body : List Byte) (s : State) : Answer :=
  .next (arrive ⟨o, lane, 0x20, tag, body⟩
    (laneRequest .acting (fun n => decide (1 ≤ n) && decide (n ≤ 1025)) handleSendPacket) s)

/-- RESUME_SEND (R76), with an empty body. -/
def execResumeSend (o : Originator) (lane tag : Byte) (body : List Byte) (s : State) : Answer :=
  .next (arrive ⟨o, lane, 0x21, tag, body⟩ (laneRequest .acting (exactly 0) handleResumeSend) s)

/-- FLUSH_LANE (R77), with a body of 1 byte. -/
def execFlushLane (o : Originator) (lane tag : Byte) (body : List Byte) (s : State) : Answer :=
  .next (arrive ⟨o, lane, 0x22, tag, body⟩ (laneRequest .acting (exactly 1) handleFlushLane) s)

/-- LANE_RESET (R80), with an empty body. -/
def execLaneReset (o : Originator) (lane tag : Byte) (body : List Byte) (s : State) : Answer :=
  .next (arrive ⟨o, lane, 0x17, tag, body⟩ (laneRequest .acting (exactly 0) handleLaneReset) s)

end Sys2Proof.Machine
end

