-- ==== Sys2Proof/Machine/OutEngine.lean ====
section
/-! DEFINITION. The OUT engine and stall clearing (R38 to R40), with what the send queue does when a send ends (R70 to
R74): SEND_START, OUT_TRANSACTION_DONE, SEND_TIMER_EXPIRY, RETRY_WAIT_END, STALL_CLEARING_DONE,
STALL_CLEARING_RETRY. -/

namespace Sys2Proof.Machine

/-- The lane's OUT engine enters a state. -/
def State.setOut (e : OutEngine) (l : LaneId) (s : State) : State :=
  s.onLane l fun L => L.onLink fun n => { n with out := e }

/-- R38: SENDING, with the send timer running for the timeout in force in this attempt. -/
def sendingFor (f : Flight) : OutEngine := .sending f (f.timeout * 1000)

/-- R38: the engine may start a send. A clearing of the OUT endpoint that waits for one of the IN endpoint counts as
under way (DEDUCED log 15). -/
def LaneState.maySend (L : LaneState) : Bool :=
  L.link.state == .up && L.link.out == .idle && !L.send.halted && !L.link.clearings.contains .out

/-- SEND_START (R38, R69): the head record becomes the send in flight. -/
def execSendStart (l : LaneId) (s : State) : Answer :=
  .next <|
    match (s.lane l).send.queue with
    | [] => s
    | r :: rest =>
      if (s.lane l).maySend then
        (s.onLane l fun L => { L with send := { L.send with queue := rest } }).setOut
          (sendingFor { record := r, attempt := 1, accepted := 0, timeout := (s.lane l).options.sendTimeout }) l
      else s

/-- R39, R70, R71, R162: a send succeeds. -/
def State.sendSucceeds (f : Flight) (l : LaneId) (s : State) : State :=
  let retries := f.attempt - 1
  let t := s.onLane l fun L =>
    { L with
      link := { L.link with out := .idle, recovered := min 65535 (L.link.recovered + retries) }
      activity := some Config.activityUs }
  if retries ≠ 0 ∧ (s.lane l).options.reportRecovered = true then
    t.endSendCheck (.sendRetried retries) l f.record
  else t.endSendGood retries l f.record

/-- R70, R73, R74: the phone refuses a send: the halt, SEND_HALTED, the refused send's reply with the number of
records cancelled, and then those records, oldest first. -/
def State.sendRefused (cond : Nat → Cond) (f : Flight) (l : LaneId) (s : State) : State :=
  let split := if f.record.chain then splitChain (s.lane l).send.queue else ([], (s.lane l).send.queue)
  let t := (s.onLane l fun L =>
    { L with link := { L.link with out := .idle }, send := { queue := split.2, halted := true } }).offerLane
      .sendHalted l
  (t.endSendCheck (cond split.1.length) l f.record).cancelChain l 1 split.1

/-- R39: an attempt that has failed without ending the send goes to RETRY_WAIT. -/
def State.retryWait (f : Flight) (l : LaneId) (s : State) : State := s.setOut (.retryWait f Config.retryWaitUs) l

/-- R40, R43: an endpoint's stall is to be cleared, after those taken before it. -/
def State.needClearing (e : Endpoint) (l : LaneId) (s : State) : State :=
  s.onLane l fun L => L.onLink fun n => { n with clearings := n.clearings ++ [e] }

/-- R39: the attempt number has reached the attempt limit in force. -/
def LaneState.lastAttempt (L : LaneState) (f : Flight) : Bool := decide (L.options.attemptLimit ≤ f.attempt)

/-- OUT_TRANSACTION_DONE (R36 to R40). -/
def execOutTransactionDone (l : LaneId) (r : OutResult) (s : State) : Answer :=
  .next <|
    match (s.lane l).link.out with
    | .sending f left =>
      match r with
      | .accepted =>
        if dataPackets f.record.data.length (s.lane l).link.packetSize ≤ f.accepted + 1 then
          ((s.zeroErrors l).tookOut l).sendSucceeds f l
        else ((s.zeroErrors l).tookOut l).setOut (sendingFor { f with accepted := f.accepted + 1 }) l
      | .nak => (s.zeroErrors l).setOut (.sending f left) l
      | .stall => ((s.zeroErrors l).sendRefused .sendStalled f l).needClearing .out l
      | .transportError =>
        s.transportError 0 l fun t =>
          if (s.lane l).lastAttempt f then t.linkFault 0 l else t.retryWait f l
    | .retryWait _ _ => s
    | .idle => s

/-- SEND_TIMER_EXPIRY (R38, R39): the attempt ends with timeout. -/
def execSendTimerExpiry (l : LaneId) (s : State) : Answer :=
  .next <|
    match (s.lane l).link.out with
    | .sending f left =>
      if (s.lane l).lastAttempt f then (s.advance left).sendRefused .sendTimeout f l
      else (s.advance left).retryWait f l
    | .retryWait _ _ => s
    | .idle => s

/-- RETRY_WAIT_END (R39): the next attempt, at the data packet not yet accepted. -/
def execRetryWaitEnd (l : LaneId) (s : State) : Answer :=
  .next <|
    match (s.lane l).link.out with
    | .retryWait f left =>
      (s.advance left).setOut
        (sendingFor { f with attempt := f.attempt + 1, timeout := (s.lane l).options.sendTimeout }) l
    | .sending _ _ => s
    | .idle => s

/-- R37: the engine whose endpoint is being cleared. -/
def Endpoint.engine : Endpoint → Nat
  | .out => 0
  | .inn => 1

/-- STALL_CLEARING_DONE (R36, R37, R40, R43): the clearing at the head ends. A NAK repeats it at once and leaves the
error count as it is; an answer of STALL is taken as done (DEDUCED log 14). -/
def execStallClearingDone (l : LaneId) (r : ClearResult) (s : State) : Answer :=
  .next <|
    match (s.lane l).link.clearings, (s.lane l).link.clearRetry with
    | e :: rest, none =>
      match r with
      | .cleared => (s.zeroErrors l).onLane l fun L => L.onLink (Link.clearingEnds e rest)
      | .stall => (s.zeroErrors l).onLane l fun L => L.onLink (Link.clearingEnds e rest)
      | .nak => s
      | .transportError =>
        s.transportError e.engine l fun t =>
          t.onLane l fun L => L.onLink fun n => { n with clearRetry := some Config.errorRetryUs }
    | _, _ => s

/-- STALL_CLEARING_RETRY (R40): the clearing transfer is repeated. -/
def execStallClearingRetry (l : LaneId) (s : State) : Answer :=
  .next <|
    match (s.lane l).link.clearRetry with
    | some left => (s.advance left).onLane l fun L => L.onLink fun n => { n with clearRetry := none }
    | none => s

end Sys2Proof.Machine
end

