-- ==== Sys2Proof/Machine/InEngine.lean ====
section
/-! DEFINITION. The IN engine (R41 to R43): POLL_ISSUE, IN_TRANSACTION_DONE, POLL_NAK_TIMEOUT, POLL_WAIT_END. -/

namespace Sys2Proof.Machine

/-- The lane's IN engine enters a state. -/
def State.setIn (e : InEngine) (l : LaneId) (s : State) : State :=
  s.onLane l fun L => L.onLink fun n => { n with inn := e }

/-- R41, R42, R58, R59: the poll conditions are rechecked. Where they hold, the engine is POLLING, with the poll under way
or the next one; where they fail it is IDLE and issues no poll, and a poll under way runs on to its end (DEDUCED log 12). -/
def State.recheckPoll (underWay : Option Poll) (l : LaneId) (s : State) : State :=
  s.setIn (if s.mayPoll l then .polling (underWay.getD Poll.fresh) else .idle underWay) l

/-- POLL_ISSUE (R41): from IDLE, when the poll conditions hold; a poll under way is then POLLING again. -/
def execPollIssue (l : LaneId) (s : State) : Answer :=
  .next <|
    match (s.lane l).link.inn with
    | .idle underWay => s.recheckPoll underWay l
    | .polling _ => s
    | .pollWait _ _ => s

/-- R42, R84, R162: a phone packet ends: it is a packet completion, it is handed to the collector, and the poll
conditions are rechecked. -/
def State.packetEnds (bytes : List Byte) (count : Nat) (l : LaneId) (s : State) : State :=
  (((s.setIn (.idle none) l).onLane l fun L => { L with activity := some Config.activityUs }).arrival bytes count
    l).recheckPoll none l

/-- R36, R42: a transport error within a poll: POLL_WAIT for 125 µs, then the same poll goes on. -/
def State.pollError (p : Poll) (l : LaneId) (s : State) : State :=
  s.transportError 1 l fun t => t.setIn (.pollWait Config.nakWaitUs (some p)) l

/-- R42: the poll under way goes on with `p` read. -/
def State.pollGoesOn (p : Poll) (l : LaneId) (s : State) : State := s.setIn ((s.lane l).link.inn.goOn p) l

/-- IN_TRANSACTION_DONE (R36, R37, R42, R43), of a poll that is POLLING or runs to its end in IDLE (R58, R59). -/
def execInTransactionDone (l : LaneId) (r : InResult) (s : State) : Answer :=
  .next <|
    match (s.lane l).link.inn.asking with
    | some p =>
      match r with
      | .data toggle bytes =>
        match
          p.accept (s.lane l).link.packetSize (s.lane l).options.sendTimeout (toggle == (s.lane l).link.inToggle) bytes
        with
        | .tooLong => s.pollError p l
        | .repeated => s.zeroErrors l
        | .more q => ((s.zeroErrors l).tookIn l).pollGoesOn q l
        | .ended kept count => ((s.zeroErrors l).tookIn l).packetEnds kept count l
      | .nak =>
        if p.count = 0 then (s.zeroErrors l).setIn (.pollWait Config.nakWaitUs none) l else s.zeroErrors l
      | .stall =>
        (((s.zeroErrors l).recordAsync .pollStalled l).setIn (.pollWait Config.nakWaitUs none) l).needClearing
          .inn l
      | .transportError => s.pollError p l
    | none => s

/-- R42: the packet that a poll is reading, in POLLING, in the wait after a transport error, or in IDLE. -/
def InEngine.reading : InEngine → Option Poll
  | .idle underWay => underWay
  | .polling p => some p
  | .pollWait _ resume => resume

/-- POLL_NAK_TIMEOUT (R42): the partial packet is discarded as one transport error, and POLL_WAIT follows. The timer runs
on in the wait after a transport error (DEDUCED log 13). -/
def execPollNakTimeout (l : LaneId) (s : State) : Answer :=
  .next <|
    match (s.lane l).link.inn.reading with
    | some ⟨_, _, some left⟩ =>
      (s.advance left).transportError 1 l fun t => t.setIn (.pollWait Config.nakWaitUs none) l
    | some ⟨_, _, none⟩ => s
    | none => s

/-- POLL_WAIT_END (R41 to R43): the conditions are rechecked, and the poll that has met a transport error goes on with the
bytes it has read, whatever they are. While the IN endpoint's clearing is not done the wait goes on. -/
def execPollWaitEnd (l : LaneId) (s : State) : Answer :=
  .next <|
    match (s.lane l).link.inn with
    | .pollWait left (some p) => (s.advance left).recheckPoll (some (p.pass left)) l
    | .pollWait left none =>
      if (s.lane l).link.clearings.contains .inn then s else (s.advance left).recheckPoll none l
    | .polling _ => s
    | .idle _ => s

end Sys2Proof.Machine
end

