-- ==== Sys2Proof/Machine/LampRequests.lean ====
section
/-! DEFINITION. SET_LAMP (R163) and KEEP_PHONE (R164). -/

namespace Sys2Proof.Machine

/-- R163: the lamp settings that a body names; `none` for a source or a flags byte outside its set. -/
def lampOf (body : List Byte) : Option Lamp :=
  match LampSource.ofCode (byteAt body 0) with
  | none => none
  | some src =>
    if 3 < byteAt body 1 then none
    else some { source := src, invert := (byteAt body 1).testBit 0, blink := (byteAt body 1).testBit 1 }

/-- R163: SET_LAMP; the reply is the 2 bytes as applied. -/
def handleSetLamp (l : LaneId) (rq : Request) (s : State) : State :=
  match lampOf rq.body with
  | none => s.refuseLane .badField l rq
  | some m =>
    (s.onLane l fun L => { L with lamp := m }).goodLane
      (le8 m.source.code ++ le8 (m.invert.toNat + 2 * m.blink.toNat)) l rq

/-- R164: KEEP_PHONE; a keep of 1 is refused while the nest reads empty. R164's outcomes after an emptied event come after
its attention (DEDUCED log 33). -/
def handleKeepPhone (l : LaneId) (rq : Request) (s : State) : State :=
  let keep := byteAt rq.body 0 == 1
  if 1 < byteAt rq.body 0 then s.refuseLane .badField l rq
  else if keep && !(s.lane l).nest.seated then s.refuseLane (.nestEmpty none) l rq
  else (s.onLane l fun L => { L with keep := keep }).goodLane (leFlag (s.lane l).keep ++ leFlag keep) l rq

/-- SET_LAMP (R163), with a body of 2 bytes. -/
def execSetLamp (o : Originator) (lane tag : Byte) (body : List Byte) (s : State) : Answer :=
  .next (arrive ⟨o, lane, 0x40, tag, body⟩ (laneRequest .acting (exactly 2) handleSetLamp) s)

/-- KEEP_PHONE (R164), with a body of 1 byte. -/
def execKeepPhone (o : Originator) (lane tag : Byte) (body : List Byte) (s : State) : Answer :=
  .next (arrive ⟨o, lane, 0x41, tag, body⟩ (laneRequest .acting (exactly 1) handleKeepPhone) s)

end Sys2Proof.Machine
end

