-- ==== Sys2Proof/Machine/LinkRequests.lean ====
section
/-! DEFINITION. LINK_RESET (R44) and SET_LINK (R45). -/

namespace Sys2Proof.Machine

/-- R44: LINK_RESET by the link state. R160's NEST_EMPTY comes after the attention of an emptied nest (DEDUCED log 33). -/
def handleLinkReset (l : LaneId) (rq : Request) (s : State) : State :=
  match (s.lane l).link.state with
  | .disabled => s.refuseLane .linkDisabled l rq
  | .vacant => s.refuseLane (.nestEmpty none) l rq
  | _ =>
    let t := s.linkReattach l
    t.goodLane (le8 (t.lane l).link.state.code) l rq

/-- R45: SET_LINK: 0 off, 1 on. R160's new nest state is met after the attention of the nest event (DEDUCED log 33). -/
def handleSetLink (l : LaneId) (rq : Request) (s : State) : State :=
  if 1 < byteAt rq.body 0 then s.refuseLane .badField l rq
  else
    let t := if byteAt rq.body 0 = 0 then s.linkOff l else s.linkOn l
    t.goodLane (le8 (t.lane l).link.state.code) l rq

/-- LINK_RESET (R44), with an empty body. -/
def execLinkReset (o : Originator) (lane tag : Byte) (body : List Byte) (s : State) : Answer :=
  .next (arrive ⟨o, lane, 0x23, tag, body⟩ (laneRequest .acting (exactly 0) handleLinkReset) s)

/-- SET_LINK (R45), with a body of 1 byte. -/
def execSetLink (o : Originator) (lane tag : Byte) (body : List Byte) (s : State) : Answer :=
  .next (arrive ⟨o, lane, 0x24, tag, body⟩ (laneRequest .acting (exactly 1) handleSetLink) s)

end Sys2Proof.Machine
end

