-- ==== Sys2Proof/Machine/OptionRequests.lean ====
section
/-! DEFINITION. SET_LANE_OPTIONS (R47, with R62, R63, R98). -/

namespace Sys2Proof.Machine

/-- Bit `i` of the select set of a SET_LANE_OPTIONS body. -/
def selects (body : List Byte) (i : Nat) : Bool := (u16At body 0).testBit i

/-- R47: the on/off fields: each one's select bit and its byte. -/
def optionFlags : List (Nat × Nat) := [(3, 7), (9, 17), (10, 18), (11, 19), (12, 20)]

/-- R47: bits 13 to 15 of the select set are clear, and each selected on/off field holds 0 or 1. -/
def optionsOk (body : List Byte) : Bool :=
  decide (u16At body 0 < 0x2000) &&
    optionFlags.all fun f => !selects body f.1 || decide (byteAt body f.2 ≤ 1)

/-- R62, step 1: the cap after the request, from the kept cap and the lane's occupancy. -/
def capAfter (body : List Byte) (occupancy kept : Nat) : Nat :=
  if selects body 4 then max (clamp 16 1280 (u16At body 8)) occupancy else kept

/-- R62, step 2: H after the request, under the cap of step 1. -/
def highAfter (body : List Byte) (cap kept : Nat) : Nat :=
  if selects body 5 then clamp 9 cap (u16At body 10) else min kept cap

/-- R62, step 3: L after the request, under the H of step 2. -/
def lowAfter (body : List Byte) (high kept : Nat) : Nat :=
  if selects body 6 then clamp 0 (high - 9) (u16At body 12) else min kept (high - 9)

/-- R47: a two-byte field, clamped where it is selected and kept where it is not. -/
def pick16 (body : List Byte) (bit at_ lo hi kept : Nat) : Nat :=
  if selects body bit then clamp lo hi (u16At body at_) else kept

/-- R47: a one-byte field, clamped where it is selected and kept where it is not. -/
def pick8 (body : List Byte) (bit at_ lo hi kept : Nat) : Nat :=
  if selects body bit then clamp lo hi (byteAt body at_) else kept

/-- R47: an on/off field. -/
def pickFlag (body : List Byte) (bit at_ : Nat) (kept : Bool) : Bool :=
  if selects body bit then byteAt body at_ == 1 else kept

/-- R47, R62: the lane's options after the request, from the options before and the lane's occupancy. -/
def optionsAfter (body : List Byte) (occupancy : Nat) (o : LaneOptions) : LaneOptions :=
  let cap := capAfter body occupancy o.cap
  let high := highAfter body cap o.high
  { attachLimit := pick16 body 0 2 500 30000 o.attachLimit
    sendTimeout := pick16 body 1 4 100 10000 o.sendTimeout
    attemptLimit := pick8 body 2 6 1 16 o.attemptLimit
    reportRecovered := pickFlag body 3 7 o.reportRecovered
    cap := cap
    high := high
    low := lowAfter body high o.low
    packTimer := pick8 body 7 14 0 100 o.packTimer
    packThreshold := pick16 body 8 15 0 4096 o.packThreshold
    priority := pickFlag body 9 17 o.priority
    promiscuous := pickFlag body 10 18 o.promiscuous
    keepDamaged := pickFlag body 11 19 o.keepDamaged
    long := pickFlag body 12 20 o.long }

/-- R47: the 19-byte reply: the thirteen fields in the order of the table. -/
def optionsBody (o : LaneOptions) : List Byte :=
  le16 o.attachLimit ++ le16 o.sendTimeout ++ le8 o.attemptLimit ++ leFlag o.reportRecovered ++ le16 o.cap ++
    le16 o.high ++ le16 o.low ++ le8 o.packTimer ++ le16 o.packThreshold ++ leFlag o.priority ++
    leFlag o.promiscuous ++ leFlag o.keepDamaged ++ leFlag o.long

/-- R92, R98: eligibility is evaluated after a request that changes the pack timer value or the threshold. -/
def LaneState.evalPack (before : LaneOptions) (L : LaneState) : LaneState :=
  if L.options.packTimer = before.packTimer ∧ L.options.packThreshold = before.packThreshold then L
  else L.evalEligible

/-- R47, R63, R98: the options are applied to the lane, and its flow hold and eligibility evaluated. -/
def LaneState.applyOptions (body : List Byte) (L : LaneState) : LaneState :=
  (({ L with options := optionsAfter body L.occupancy L.options }).evalPack L.options).holdAfterOptions

/-- R47: SET_LANE_OPTIONS. -/
def handleSetLaneOptions (l : LaneId) (rq : Request) (s : State) : State :=
  if optionsOk rq.body then
    ((s.onLane l (LaneState.applyOptions rq.body)).squeezeAfterOptions).goodLane
      (optionsBody ((s.lane l).applyOptions rq.body).options) l rq
  else s.refuseLane .badField l rq

/-- SET_LANE_OPTIONS (R47), with a body of 21 bytes. -/
def execSetLaneOptions (o : Originator) (lane tag : Byte) (body : List Byte) (s : State) : Answer :=
  .next (arrive ⟨o, lane, 0x16, tag, body⟩ (laneRequest .acting (exactly 21) handleSetLaneOptions) s)

end Sys2Proof.Machine
end

