-- ==== Sys2Proof/Machine/Port.lean ====
section
/-! DEFINITION. The station port (R1) and the hard reset (R24): SET_CONFIGURATION, DECONFIGURE, BUS_RESET, VBUS_LOSS,
VBUS_PRESENT, SUSPEND, RESUME, HARD_RESET, HARD_RESET_RELEASE. -/

namespace Sys2Proof.Machine

/-- SET_CONFIGURATION (R1): UNCONFIGURED to CONFIGURED. Nothing travels on a suspended bus (DEDUCED log 17). -/
def execSetConfiguration (s : State) : Answer :=
  .next <| if s.port = .unconfigured ∧ s.suspended = false then { s with port := .configured } else s

/-- DECONFIGURE (R1): the host selects configuration 0. -/
def execDeconfigure (s : State) : Answer :=
  .next <|
    if s.port = .configured ∧ s.suspended = false then s.leaveConfigured .unconfigured else s

/-- BUS_RESET (R1): a CONFIGURED port leaves that state; an UNCONFIGURED port is disturbed in nothing. A reset ends a
suspension (DEDUCED log 17). -/
def execBusReset (s : State) : Answer :=
  .next <|
    match s.port with
    | .detached => s
    | .unconfigured => { s with suspended := false }
    | .configured => ({ s with suspended := false }).leaveConfigured .unconfigured

/-- VBUS_LOSS (R1): the port becomes DETACHED. -/
def execVbusLoss (s : State) : Answer :=
  .next <|
    let t := { s with vbus := false, suspended := false }
    match s.port with
    | .detached => t
    | .unconfigured => { t with port := .detached }
    | .configured => t.leaveConfigured .detached

/-- VBUS_PRESENT (R1): out of hard reset, DETACHED to UNCONFIGURED. -/
def execVbusPresent (s : State) : Answer :=
  .next <|
    if s.port = .detached ∧ s.hardReset = false then { s with vbus := true, port := .unconfigured }
    else { s with vbus := true }

/-- SUSPEND (R1): a condition layered on the two attached states. -/
def execSuspend (s : State) : Answer :=
  .next <| if s.port = .detached then s else { s with suspended := true }

/-- RESUME (R1). -/
def execResume (s : State) : Answer := .next { s with suspended := false }

/-- HARD_RESET (R24): every block at its reset state, the port DETACHED. No timer runs until the release (DEDUCED log 8). -/
def execHardReset (s : State) : Answer :=
  .next (({ s with hardReset := true, port := .detached, suspended := false }).deviceReset false)

/-- HARD_RESET_RELEASE (R24): with VBUS present the port becomes UNCONFIGURED; the timebase counts on from 0, and the
qualifications of R25 and R157 and the converter's scan (R132) start. -/
def execHardResetRelease (s : State) : Answer :=
  .next <|
    if s.hardReset then
      ({ s with hardReset := false, port := if s.vbus then .unconfigured else .detached }).deviceReset true
    else s

/-- What the part does while no command waits: 1 µs passes, and nothing passes while it is held in hard reset (R20,
DESIGN CHOICE log 1). -/
def State.idle (s : State) : State := if s.hardReset then s else s.advance 1

end Sys2Proof.Machine
end

