-- ==== Sys2Proof/Machine/StrokeRequests.lean ====
section
/-! DEFINITION. Lane-scope requests of the stroke unit: QUEUE_STROKES (R147), STOP_STROKES (R154), SET_STROKE_TIMING
(R148). -/

namespace Sys2Proof.Machine

/-- R147: one step entry; `none` if a bit that must be 0 is set. -/
def stepOf (keys lo hi flags : Byte) : Option Step :=
  if 3 < keys.toNat ∨ 1 < flags.toNat then none
  else some
    { keyA := keys.toNat.testBit 0, keyB := keys.toNat.testBit 1
      duration := clamp 1 10000 (lo.toNat + 256 * hi.toNat), tie := flags.toNat == 1 }

/-- R147: the steps of a body, as applied; `none` if one of them is bad. -/
def stepsOf : List Byte → Option (List Step)
  | keys :: lo :: hi :: flags :: more =>
    match stepOf keys lo hi flags, stepsOf more with
    | some st, some sts => some (st :: sts)
    | some _, none => none
    | none, _ => none
  | _ => some []

/-- R147: the steps are appended; the low-mark armed flag is set if the count comes above the low mark. -/
def Strokes.append (sts : List Step) (k : Strokes) : Strokes :=
  { k with
    queue := k.queue ++ sts
    lowArmed := decide (k.lowMark < k.queue.length + sts.length) || k.lowArmed }

/-- R147: QUEUE_STROKES. -/
def handleQueueStrokes (l : LaneId) (rq : Request) (s : State) : State :=
  let q := (s.lane l).strokes.queue.length
  match stepsOf rq.body with
  | none => s.refuseLane .badField l rq
  | some sts =>
    if Config.strokeQueueMax < q + sts.length then
      s.refuseLane (.strokeQueueFull (Config.strokeQueueMax - q)) l rq
    else (s.onLane l fun L => L.onStrokes (Strokes.append sts)).goodLane
      (le8 (q + sts.length) ++ (sts.map stepBytes).flatten) l rq

/-- R148: SET_STROKE_TIMING. -/
def handleSetStrokeTiming (l : LaneId) (rq : Request) (s : State) : State :=
  let gap := clamp 10 200 (byteAt rq.body 0)
  let mark := clamp 0 15 (byteAt rq.body 1)
  (s.onLane l fun L => L.onStrokes fun k => ({ k with gap := gap, lowMark := mark }).rearm).goodLane
    (le8 gap ++ le8 mark) l rq

/-- R154: the reply body of STOP_STROKES. -/
def stopBody (former cleared : Nat) : List Byte := le8 former ++ le8 cleared

/-- R154: STOP_STROKES. From IDLE the reply is GOOD at once; otherwise its entry stays RESERVED until the retract
ends. -/
def handleStopStrokes (l : LaneId) (rq : Request) (s : State) : State :=
  let k := (s.lane l).strokes
  let t := s.onLane l fun L => L.onStrokes Strokes.stop
  if k.state = .idle then t.goodLane (stopBody 0 k.queue.length) l rq
  else t.onLane l fun L => L.onStrokes fun j =>
    { j with waiting := j.waiting ++ [⟨rq.originator, rq.tag, k.state.code, k.queue.length⟩] }

/-! ### Meanings -/

/-- QUEUE_STROKES (R147), with a body of 4 to 64 bytes, a whole multiple of 4. -/
def execQueueStrokes (o : Originator) (lane tag : Byte) (body : List Byte) (s : State) : Answer :=
  .next (arrive ⟨o, lane, 0x38, tag, body⟩
    (laneRequest .acting (fun n => decide (4 ≤ n) && decide (n ≤ 64) && decide (n % 4 = 0)) handleQueueStrokes) s)

/-- STOP_STROKES (R154), with an empty body. -/
def execStopStrokes (o : Originator) (lane tag : Byte) (body : List Byte) (s : State) : Answer :=
  .next (arrive ⟨o, lane, 0x39, tag, body⟩ (laneRequest .acting (exactly 0) handleStopStrokes) s)

/-- SET_STROKE_TIMING (R148), with a body of 2 bytes. -/
def execSetStrokeTiming (o : Originator) (lane tag : Byte) (body : List Byte) (s : State) : Answer :=
  .next (arrive ⟨o, lane, 0x3A, tag, body⟩ (laneRequest .acting (exactly 2) handleSetStrokeTiming) s)

end Sys2Proof.Machine
end

