-- ==== Sys2Proof/Machine/SupplyRequests.lean ====
section
/-! DEFINITION. Requests of the supply monitor: SUPPLY (R130), SET_TRIP (R135), ARM_WINDOW (R137), CANCEL_WINDOW (R141),
READ_WINDOW (R142). -/

namespace Sys2Proof.Machine

/-- R130: the battery voltage as applied. -/
def voltageOf (requested : Nat) : Nat := clamp 3400 4400 requested / 10 * 10

/-- R130: the selection is stored; a change of source while ON restarts the blanking and the run. -/
def Supply.select (src : Source) (mv : Nat) (u : Supply) : Supply :=
  let v := { u with source := src, millivolts := mv }
  if u.state = .on ∧ u.source ≠ src then v.zeroCounts else v

/-- R130: the entry to ON from OFF: counts at 0, and SUPPLY_ON fires. -/
def Supply.turnOn (u : Supply) : Supply := ({ u.zeroCounts with state := .on }).fireOn hitsSupplyOn

/-- R130: the reply body of SUPPLY. -/
def supplyBody (u : Supply) : List Byte := le8 u.state.code ++ le8 u.source.code ++ le16 u.millivolts

/-- R130: what an action makes of a supply; `none` for an ON that is refused. -/
def Supply.act (action : Nat) (seated : Bool) (u : Supply) : Option Supply :=
  match action, u.state with
  | 0, .on => some { u.zeroCounts with state := .off }
  | 0, .off => some u
  | 0, .tripped => some u
  | 1, .off => if seated then some u.turnOn else none
  | 1, .on => some u
  | 1, .tripped => none
  | _, .tripped => some { u with state := .off }
  | _, .off => some u
  | _, .on => some u

/-- R130: SUPPLY. R131's NEST_EMPTY comes after the attention of an emptied nest (DEDUCED log 33). -/
def handleSupply (l : LaneId) (rq : Request) (s : State) : State :=
  let action := byteAt rq.body 0
  let mv := voltageOf (u16At rq.body 2)
  if 2 < action then s.refuseLane .badField l rq
  else
    match Source.ofCode (byteAt rq.body 1) with
    | none => s.refuseLane .badField l rq
    | some src =>
      match ((s.lane l).supply.select src mv).act action (s.lane l).nest.seated with
      | some u => (s.onLane l fun L => { L with supply := u }).goodLane (supplyBody u) l rq
      | none =>
        if (s.lane l).nest.seated then s.refuseLane .tripLatched l rq
        else s.refuseLane (.nestEmpty none) l rq

/-- R135: the trip setting is stored; the run becomes 0 and the blanking count stays. A supply that is ON and no longer
inside its blanking has passed it, under the new setting too (DEDUCED log 30). -/
def Supply.setTrip (t k b : Nat) (u : Supply) : Supply :=
  { u with
    tripLevel := t, tripCount := k, blanking := b, tripRun := 0
    blankPassed := u.state == .on && !u.blanked }

/-- R135: SET_TRIP. -/
def handleSetTrip (l : LaneId) (rq : Request) (s : State) : State :=
  let t := clamp 0 4095 (u16At rq.body 0)
  let k := clamp 1 16 (byteAt rq.body 2)
  let b := byteAt rq.body 3
  (s.onLane l fun L => L.onSupply (Supply.setTrip t k b)).goodLane (le16 t ++ le8 k ++ le8 b) l rq

/-- R137: the parameters of an ARM_WINDOW, as applied; `none` for a trigger or an edge outside its set. -/
def windowParams (body : List Byte) : Option WindowParams :=
  match Trigger.ofCode (byteAt body 0) with
  | none => none
  | some trig =>
    if 1 < byteAt body 8 then none
    else some
      { trigger := trig
        step := if trig = .strokeStep then clamp 1 16 (byteAt body 1) else 0
        delay := u16At body 2
        length := clamp 1 4096 (u16At body 4)
        level := clamp 0 4095 (u16At body 6)
        rise := byteAt body 8 == 0 }

/-- R136: the active place is free: IDLE, DONE and ABORTED are treated alike. -/
def ActiveWindow.atRest : ActiveWindow → Bool
  | .idle => true
  | .done _ => true
  | .aborted _ => true
  | .armed _ => false
  | .delaying _ _ => false
  | .measuring _ _ => false

/-- R137: ARM_WINDOW: placement 0 active, 1 staged. -/
def handleArmWindow (l : LaneId) (rq : Request) (s : State) : State :=
  match windowParams rq.body with
  | none => s.refuseLane .badField l rq
  | some p =>
    if (s.lane l).supply.active.atRest then
      (s.onLane l fun L => L.onSupply fun u => { u with active := .armed p }).goodLane
        (le8 0 ++ windowBytes p) l rq
    else if (s.lane l).supply.staged = none then
      (s.onLane l fun L => L.onSupply fun u => { u with staged := some p }).goodLane
        (le8 1 ++ windowBytes p) l rq
    else s.refuseLane .windowStaged l rq

/-- R141: CANCEL_WINDOW: no result, no event; the last result is kept. -/
def handleCancelWindow (l : LaneId) (rq : Request) (s : State) : State :=
  (s.onLane l fun L => L.onSupply fun u => { u with active := .idle, staged := none }).goodLane
    (le8 (s.lane l).supply.active.code ++ leFlag (s.lane l).supply.staged.isSome) l rq

/-- R142: a figure of a result, 0xFFFF where it is absent. -/
def figureBytes (f : Option Nat) : List Byte := le16 (f.getD 0xFFFF)

/-- R142: the body of READ_WINDOW. -/
def readWindowBody (u : Supply) : List Byte :=
  le8 u.active.code ++ leFlag u.staged.isSome ++
    match u.result with
    | none => leFlag false
    | some r =>
      leFlag true ++ le8 (if r.done then 4 else 5) ++ le16 r.length ++ le16 r.figures.samples ++
        le32 r.figures.sum ++ figureBytes r.figures.minimum ++ figureBytes r.figures.maximum ++
        figureBytes r.figures.mean ++ figureBytes r.figures.capture ++ le32 r.endTime.toNat

/-- R142: READ_WINDOW changes no state. -/
def handleReadWindow (l : LaneId) (rq : Request) (s : State) : State :=
  s.answer rq .good (readWindowBody (s.lane l).supply)

/-! ### Meanings -/

/-- SUPPLY (R130), with a body of 4 bytes. -/
def execSupply (o : Originator) (lane tag : Byte) (body : List Byte) (s : State) : Answer :=
  .next (arrive ⟨o, lane, 0x30, tag, body⟩ (laneRequest .acting (exactly 4) handleSupply) s)

/-- SET_TRIP (R135), with a body of 4 bytes. -/
def execSetTrip (o : Originator) (lane tag : Byte) (body : List Byte) (s : State) : Answer :=
  .next (arrive ⟨o, lane, 0x31, tag, body⟩ (laneRequest .acting (exactly 4) handleSetTrip) s)

/-- ARM_WINDOW (R137), with a body of 9 bytes. -/
def execArmWindow (o : Originator) (lane tag : Byte) (body : List Byte) (s : State) : Answer :=
  .next (arrive ⟨o, lane, 0x32, tag, body⟩ (laneRequest .acting (exactly 9) handleArmWindow) s)

/-- CANCEL_WINDOW (R141), with an empty body. -/
def execCancelWindow (o : Originator) (lane tag : Byte) (body : List Byte) (s : State) : Answer :=
  .next (arrive ⟨o, lane, 0x33, tag, body⟩ (laneRequest .acting (exactly 0) handleCancelWindow) s)

/-- READ_WINDOW (R142), an observing request with an empty body. -/
def execReadWindow (o : Originator) (lane tag : Byte) (body : List Byte) (s : State) : Answer :=
  .next (arrive ⟨o, lane, 0x34, tag, body⟩ (laneRequest .observing (exactly 0) handleReadWindow) s)

end Sys2Proof.Machine
end

