-- ==== Sys2Proof/Machine/Dispatch.lean ====
section
/-! DEFINITION. The dispatch: one arm per command of the table, in the table's order, each one call of the command's
meaning. -/

namespace Sys2Proof.Machine

/-- The effect of a command on everything but the queue of waiting commands. -/
def exec (i : Instr) (s : State) : Host.Outcome State Fault Refusal :=
  match i with
  | .frameDiscarded bytes => Sys2Proof.Machine.execFrameDiscarded bytes s
  | .unknownRequest o lane code tag body => Sys2Proof.Machine.execUnknownRequest o lane code tag body s
  | .outResume => Sys2Proof.Machine.execOutResume s
  | .setConfiguration => Sys2Proof.Machine.execSetConfiguration s
  | .deconfigure => Sys2Proof.Machine.execDeconfigure s
  | .busReset => Sys2Proof.Machine.execBusReset s
  | .vbusLoss => Sys2Proof.Machine.execVbusLoss s
  | .vbusPresent => Sys2Proof.Machine.execVbusPresent s
  | .suspend => Sys2Proof.Machine.execSuspend s
  | .resume => Sys2Proof.Machine.execResume s
  | .hardReset => Sys2Proof.Machine.execHardReset s
  | .frameBuild => Sys2Proof.Machine.execFrameBuild s
  | .inTransferDone => Sys2Proof.Machine.execInTransferDone s
  | .pacingTimerExpiry o => Sys2Proof.Machine.execPacingTimerExpiry o s
  | .deviceStatus o lane tag body => Sys2Proof.Machine.execDeviceStatus o lane tag body s
  | .deviceReset o lane tag body => Sys2Proof.Machine.execDeviceReset o lane tag body s
  | .configurePool o lane tag body => Sys2Proof.Machine.execConfigurePool o lane tag body s
  | .setClassActions o lane tag body => Sys2Proof.Machine.execSetClassActions o lane tag body s
  | .readClassActions o lane tag body => Sys2Proof.Machine.execReadClassActions o lane tag body s
  | .openNotices o lane tag body => Sys2Proof.Machine.execOpenNotices o lane tag body s
  | .closeNotices o lane tag body => Sys2Proof.Machine.execCloseNotices o lane tag body s
  | .setPacing o lane tag body => Sys2Proof.Machine.execSetPacing o lane tag body s
  | .startStrokes o lane tag body => Sys2Proof.Machine.execStartStrokes o lane tag body s
  | .deviceSense o lane tag body => Sys2Proof.Machine.execDeviceSense o lane tag body s
  | .claimLane o lane tag body => Sys2Proof.Machine.execClaimLane o lane tag body s
  | .yieldLane o lane tag body => Sys2Proof.Machine.execYieldLane o lane tag body s
  | .breakClaim o lane tag body => Sys2Proof.Machine.execBreakClaim o lane tag body s
  | .laneStatus o lane tag body => Sys2Proof.Machine.execLaneStatus o lane tag body s
  | .laneSense o lane tag body => Sys2Proof.Machine.execLaneSense o lane tag body s
  | .laneIdentity o lane tag body => Sys2Proof.Machine.execLaneIdentity o lane tag body s
  | .setLaneOptions o lane tag body => Sys2Proof.Machine.execSetLaneOptions o lane tag body s
  | .laneReset o lane tag body => Sys2Proof.Machine.execLaneReset o lane tag body s
  | .sendPacket o lane tag body => Sys2Proof.Machine.execSendPacket o lane tag body s
  | .resumeSend o lane tag body => Sys2Proof.Machine.execResumeSend o lane tag body s
  | .flushLane o lane tag body => Sys2Proof.Machine.execFlushLane o lane tag body s
  | .linkReset o lane tag body => Sys2Proof.Machine.execLinkReset o lane tag body s
  | .setLink o lane tag body => Sys2Proof.Machine.execSetLink o lane tag body s
  | .supply o lane tag body => Sys2Proof.Machine.execSupply o lane tag body s
  | .setTrip o lane tag body => Sys2Proof.Machine.execSetTrip o lane tag body s
  | .armWindow o lane tag body => Sys2Proof.Machine.execArmWindow o lane tag body s
  | .cancelWindow o lane tag body => Sys2Proof.Machine.execCancelWindow o lane tag body s
  | .readWindow o lane tag body => Sys2Proof.Machine.execReadWindow o lane tag body s
  | .queueStrokes o lane tag body => Sys2Proof.Machine.execQueueStrokes o lane tag body s
  | .stopStrokes o lane tag body => Sys2Proof.Machine.execStopStrokes o lane tag body s
  | .setStrokeTiming o lane tag body => Sys2Proof.Machine.execSetStrokeTiming o lane tag body s
  | .setLamp o lane tag body => Sys2Proof.Machine.execSetLamp o lane tag body s
  | .keepPhone o lane tag body => Sys2Proof.Machine.execKeepPhone o lane tag body s
  | .lineStateChange l shows => Sys2Proof.Machine.execLineStateChange l shows s
  | .connectDetection l => Sys2Proof.Machine.execConnectDetection l s
  | .disconnectDetection l => Sys2Proof.Machine.execDisconnectDetection l s
  | .portResetEnd l highSpeed => Sys2Proof.Machine.execPortResetEnd l highSpeed s
  | .enumerationTransferDone l r => Sys2Proof.Machine.execEnumerationTransferDone l r s
  | .attachRetryExpiry l => Sys2Proof.Machine.execAttachRetryExpiry l s
  | .identityTransactionDone l r => Sys2Proof.Machine.execIdentityTransactionDone l r s
  | .identityReadTimeout l => Sys2Proof.Machine.execIdentityReadTimeout l s
  | .attachTimerExpiry l => Sys2Proof.Machine.execAttachTimerExpiry l s
  | .sendStart l => Sys2Proof.Machine.execSendStart l s
  | .outTransactionDone l r => Sys2Proof.Machine.execOutTransactionDone l r s
  | .sendTimerExpiry l => Sys2Proof.Machine.execSendTimerExpiry l s
  | .retryWaitEnd l => Sys2Proof.Machine.execRetryWaitEnd l s
  | .stallClearingDone l r => Sys2Proof.Machine.execStallClearingDone l r s
  | .stallClearingRetry l => Sys2Proof.Machine.execStallClearingRetry l s
  | .pollIssue l => Sys2Proof.Machine.execPollIssue l s
  | .inTransactionDone l r => Sys2Proof.Machine.execInTransactionDone l r s
  | .pollNakTimeout l => Sys2Proof.Machine.execPollNakTimeout l s
  | .pollWaitEnd l => Sys2Proof.Machine.execPollWaitEnd l s
  | .packTimerExpiry l => Sys2Proof.Machine.execPackTimerExpiry l s
  | .sampleEvent l sample => Sys2Proof.Machine.execSampleEvent l sample s
  | .startInstant l => Sys2Proof.Machine.execStartInstant l s
  | .stepEnd l => Sys2Proof.Machine.execStepEnd l s
  | .releaseGapEnd l => Sys2Proof.Machine.execReleaseGapEnd l s
  | .retractEnd l => Sys2Proof.Machine.execRetractEnd l s
  | .nestInputChange l seated => Sys2Proof.Machine.execNestInputChange l seated s
  | .nestQualificationEnd l => Sys2Proof.Machine.execNestQualificationEnd l s
  | .activityTimerExpiry l => Sys2Proof.Machine.execActivityTimerExpiry l s
  | .hardResetRelease => Sys2Proof.Machine.execHardResetRelease s
  | .outDataPacket bytes => Sys2Proof.Machine.execOutDataPacket bytes s

end Sys2Proof.Machine
end

