-- ==== Sys2Proof/Safety.lean ====
section
/-! DEFINITION. What claims about the M24 are stated in: the request that a command carries, the request table of
section 1.5 with the body lengths of each request's field list, an OUT side that takes a request, a requester that may
act, the two shapes of a reply, and the invariants that a safe run keeps. -/

namespace Sys2Proof.Machine

/-! ### Frames -/

/-- R4, R5: from HUNT, reception takes the bytes of `frame` as far as its last byte, and that byte's judgement is that the
frame is discarded. -/
def discardsFrame (frame : List Byte) : Prop :=
  ∀ (rest : List Byte) (x : Rx) (mayBegin : Bool), x.phase = .hunt → x.got = [] → (x.begun || mayBegin) = true →
    ∃ (phase : RxPhase) (taken : List Byte) (last : Byte), frame = taken ++ [last] ∧
      Rx.run mayBegin x (frame ++ rest) = (⟨true, phase, taken, x.buf⟩, last :: rest) ∧
      (⟨true, phase, taken, x.buf⟩ : Rx).judges last = some .discard

/-- Section 1.2, R3: `bytes` is `head` and the CRC over it, low byte first. -/
def framed (head bytes : List Byte) : Prop :=
  ∃ lo hi : Byte, bytes = head ++ [lo, hi] ∧ lo.toNat + 256 * hi.toNat = (crc16 head).toNat

/-! ### Requests -/

/-- The request frame that a command carries: one of the 33 requests, or a frame that names no request (R9). -/
def requestOf : Instr → Option Request
  | .unknownRequest o lane code tag body => if namesRequest code then none else some ⟨o, lane, code, tag, body⟩
  | .deviceStatus o lane tag body => some ⟨o, lane, 0x01, tag, body⟩
  | .deviceReset o lane tag body => some ⟨o, lane, 0x02, tag, body⟩
  | .configurePool o lane tag body => some ⟨o, lane, 0x03, tag, body⟩
  | .setClassActions o lane tag body => some ⟨o, lane, 0x04, tag, body⟩
  | .readClassActions o lane tag body => some ⟨o, lane, 0x05, tag, body⟩
  | .openNotices o lane tag body => some ⟨o, lane, 0x06, tag, body⟩
  | .closeNotices o lane tag body => some ⟨o, lane, 0x07, tag, body⟩
  | .setPacing o lane tag body => some ⟨o, lane, 0x08, tag, body⟩
  | .startStrokes o lane tag body => some ⟨o, lane, 0x09, tag, body⟩
  | .deviceSense o lane tag body => some ⟨o, lane, 0x0A, tag, body⟩
  | .claimLane o lane tag body => some ⟨o, lane, 0x10, tag, body⟩
  | .yieldLane o lane tag body => some ⟨o, lane, 0x11, tag, body⟩
  | .breakClaim o lane tag body => some ⟨o, lane, 0x12, tag, body⟩
  | .laneStatus o lane tag body => some ⟨o, lane, 0x13, tag, body⟩
  | .laneSense o lane tag body => some ⟨o, lane, 0x14, tag, body⟩
  | .laneIdentity o lane tag body => some ⟨o, lane, 0x15, tag, body⟩
  | .setLaneOptions o lane tag body => some ⟨o, lane, 0x16, tag, body⟩
  | .laneReset o lane tag body => some ⟨o, lane, 0x17, tag, body⟩
  | .sendPacket o lane tag body => some ⟨o, lane, 0x20, tag, body⟩
  | .resumeSend o lane tag body => some ⟨o, lane, 0x21, tag, body⟩
  | .flushLane o lane tag body => some ⟨o, lane, 0x22, tag, body⟩
  | .linkReset o lane tag body => some ⟨o, lane, 0x23, tag, body⟩
  | .setLink o lane tag body => some ⟨o, lane, 0x24, tag, body⟩
  | .supply o lane tag body => some ⟨o, lane, 0x30, tag, body⟩
  | .setTrip o lane tag body => some ⟨o, lane, 0x31, tag, body⟩
  | .armWindow o lane tag body => some ⟨o, lane, 0x32, tag, body⟩
  | .cancelWindow o lane tag body => some ⟨o, lane, 0x33, tag, body⟩
  | .readWindow o lane tag body => some ⟨o, lane, 0x34, tag, body⟩
  | .queueStrokes o lane tag body => some ⟨o, lane, 0x38, tag, body⟩
  | .stopStrokes o lane tag body => some ⟨o, lane, 0x39, tag, body⟩
  | .setStrokeTiming o lane tag body => some ⟨o, lane, 0x3A, tag, body⟩
  | .setLamp o lane tag body => some ⟨o, lane, 0x40, tag, body⟩
  | .keepPhone o lane tag body => some ⟨o, lane, 0x41, tag, body⟩
  | .frameDiscarded _ | .outResume | .setConfiguration | .deconfigure | .busReset | .vbusLoss
  | .vbusPresent | .suspend | .resume | .hardReset | .frameBuild | .inTransferDone
  | .pacingTimerExpiry _ | .lineStateChange _ _ | .connectDetection _ | .disconnectDetection _
  | .portResetEnd _ _ | .enumerationTransferDone _ _ | .attachRetryExpiry _
  | .identityTransactionDone _ _ | .identityReadTimeout _ | .attachTimerExpiry _ | .sendStart _
  | .outTransactionDone _ _ | .sendTimerExpiry _ | .retryWaitEnd _ | .stallClearingDone _ _
  | .stallClearingRetry _ | .pollIssue _ | .inTransactionDone _ _ | .pollNakTimeout _
  | .pollWaitEnd _ | .packTimerExpiry _ | .sampleEvent _ _ | .startInstant _ | .stepEnd _
  | .releaseGapEnd _ | .retractEnd _ | .nestInputChange _ _ | .nestQualificationEnd _
  | .activityTimerExpiry _ | .hardResetRelease | .outDataPacket _ => none

/-- A row of the request table (section 1.5): scope and class; `claims` marks CLAIM_LANE, YIELD_LANE and BREAK_CLAIM,
which take no ownership step (R9). -/
structure RequestRow where
  device : Bool
  acting : Bool
  claims : Bool
  minBody : Nat
  maxBody : Nat
  unit : Nat
deriving DecidableEq, Repr

/-- The request table of section 1.5 with the body lengths that each request's field list allows: from `minBody` to
`maxBody`, in whole multiples of `unit`. -/
def requestRow (code : Byte) : Option RequestRow :=
  match code.toNat with
  | 0x01 => some ⟨true, false, false, 0, 0, 1⟩
  | 0x02 => some ⟨true, true, false, 0, 0, 1⟩
  | 0x03 => some ⟨true, true, false, 3, 3, 1⟩
  | 0x04 => some ⟨true, true, false, 2, 257, 1⟩
  | 0x05 => some ⟨true, false, false, 3, 3, 1⟩
  | 0x06 => some ⟨true, true, false, 3, 3, 1⟩
  | 0x07 => some ⟨true, true, false, 3, 3, 1⟩
  | 0x08 => some ⟨true, true, false, 2, 2, 1⟩
  | 0x09 => some ⟨true, true, false, 3, 3, 1⟩
  | 0x0A => some ⟨true, false, false, 0, 0, 1⟩
  | 0x10 => some ⟨false, true, true, 0, 1, 1⟩
  | 0x11 => some ⟨false, true, true, 1, 1, 1⟩
  | 0x12 => some ⟨false, true, true, 0, 0, 1⟩
  | 0x13 => some ⟨false, false, false, 0, 0, 1⟩
  | 0x14 => some ⟨false, false, false, 0, 0, 1⟩
  | 0x15 => some ⟨false, false, false, 0, 0, 1⟩
  | 0x16 => some ⟨false, true, false, 21, 21, 1⟩
  | 0x17 => some ⟨false, true, false, 0, 0, 1⟩
  | 0x20 => some ⟨false, true, false, 1, 1025, 1⟩
  | 0x21 => some ⟨false, true, false, 0, 0, 1⟩
  | 0x22 => some ⟨false, true, false, 1, 1, 1⟩
  | 0x23 => some ⟨false, true, false, 0, 0, 1⟩
  | 0x24 => some ⟨false, true, false, 1, 1, 1⟩
  | 0x30 => some ⟨false, true, false, 4, 4, 1⟩
  | 0x31 => some ⟨false, true, false, 4, 4, 1⟩
  | 0x32 => some ⟨false, true, false, 9, 9, 1⟩
  | 0x33 => some ⟨false, true, false, 0, 0, 1⟩
  | 0x34 => some ⟨false, false, false, 0, 0, 1⟩
  | 0x38 => some ⟨false, true, false, 4, 64, 4⟩
  | 0x39 => some ⟨false, true, false, 0, 0, 1⟩
  | 0x3A => some ⟨false, true, false, 2, 2, 1⟩
  | 0x40 => some ⟨false, true, false, 2, 2, 1⟩
  | 0x41 => some ⟨false, true, false, 1, 1, 1⟩
  | _ => none

/-- The lane byte fits the row's scope (R9). -/
def RequestRow.fitsLane (r : RequestRow) (lane : Byte) : Bool :=
  if r.device then lane == 255 else decide (lane.toNat < 24)

/-- The body length is one that the row allows (R9). -/
def RequestRow.fitsLength (r : RequestRow) (n : Nat) : Bool :=
  decide (r.minBody ≤ n) && decide (n ≤ r.maxBody) && decide (n % r.unit = 0)

/-- R9, step 1: the condition of the first well-formedness check that a request fails; `none` if it passes them all. -/
def Request.formFault (rq : Request) : Option Cond :=
  match requestRow rq.code with
  | none => some .unknownRequest
  | some r =>
    if r.fitsLane rq.lane = false then some .badLane
    else if r.fitsLength rq.body.length = false then some .badLength
    else none

/-! ### An OUT side that takes a request, and a requester that may act -/

/-- The OUT side waits for a frame and may take one: the port is CONFIGURED and not suspended, reception is in HUNT
with the receive buffer empty and nothing begun, a reply entry is FREE, and no DEVICE_RESET is pending (R1, R4, R6,
R22). -/
def State.hears (s : State) : Prop :=
  s.port = .configured ∧ s.suspended = false ∧ s.rx = Rx.idle ∧ 0 < s.freeEntries ∧ s.resetPending = false

/-- `o` passes the attention step and the ownership step on lane `l` (R9): no attention is pending in its record, and
the lane is FREE or serves it. -/
def State.passes (s : State) (o : Originator) (l : LaneId) : Prop :=
  (s.lane l).sense[o].causes = 0 ∧ ∀ c, (s.lane l).claim = some c → c.beneficiary = o

/-- A GOOD reply to an acting request of `o` on lane `l`: the requester's condition is cleared, and the reply is READY
(R121, R8). -/
def State.goodReply (code tag : Byte) (o : Originator) (l : LaneId) (body : List Byte) (s : State) : State :=
  (s.onLane l fun L => { L with sense := L.sense.set o { L.sense[o] with held := none, further := 0 } }).pushReply
    ⟨o, laneByte l, code, tag, .good, body⟩

/-- A CHECK reply to a request of `o` on lane `l`: the condition is recorded in the requester's lane record, and the
reply is READY (R117, R11). -/
def State.checkReply (c : Cond) (code tag : Byte) (o : Originator) (l : LaneId) (s : State) : State :=
  (s.recordLane c o l).pushReply ⟨o, laneByte l, code, tag, .check, shortSense c⟩

/-- A CHECK reply to a device-scope request of `o`: recorded in its device record (R117, R11). -/
def State.checkDevice (c : Cond) (code tag : Byte) (o : Originator) (s : State) : State :=
  (s.recordDevice c o).pushReply ⟨o, 255, code, tag, .check, shortSense c⟩

/-! ### Terms of the arbiter, the notices and the pool -/

/-- `x` is the first after `p`, in cyclic order, for which `ok` holds (R13, R94). -/
def NextAfter {n : Nat} [NeZero n] (p : Fin n) (ok : Fin n → Prop) (x : Fin n) : Prop :=
  ∃ k : Nat, k < n ∧ x = p + Fin.ofNat n (k + 1) ∧ ok x ∧ ∀ j : Nat, j < k → ¬ ok (p + Fin.ofNat n (j + 1))

/-- `l` is the lowest lane for which `ok` holds. -/
def Lowest (ok : LaneId → Prop) (l : LaneId) : Prop := ok l ∧ ∀ k : LaneId, k < l → ¬ ok k

/-- A built frame is in its slot: the transmitting slot where that is EMPTY, the staged slot otherwise (R12). -/
def State.withBuilt (s : State) (f : Frame) : State :=
  if s.transmitting = none then { s with transmitting := some f } else { s with staged := some f }

/-- R13, R19: a notice may be built for `o`: its accumulator is not empty, its pacing timer is idle, and no notice to it
is in a slot. -/
def State.wantsNotice (s : State) (o : Originator) : Prop :=
  (∃ p : Fin 25, (s.orig o).accumulator[p] ≠ none) ∧ (s.orig o).pacing = none ∧
    ∀ entries, s.transmitting ≠ some (.notice o entries) ∧ s.staged ≠ some (.notice o entries)

/-- R94: a lane is a candidate of the priority class, or of the normal class. -/
def State.isCandidate (s : State) (priority : Bool) (l : LaneId) : Prop :=
  (s.lane l).claim ≠ none ∧ (s.lane l).upstream.eligible = true ∧ (s.lane l).options.priority = priority

/-- An event that a device event of kind `k` makes of the state, if it is offered. -/
def State.offeredIf (s : State) (b : Bool) (k : EventKind) : State := if b = true then s.offerDevice k else s

/-- R59, after a release: a squeezed pool with 27 shared free cells or more leaves squeeze and offers POOL_RELIEF. -/
def State.leaveSqueeze (s : State) : State :=
  if s.squeezed = true ∧
      27 ≤ (2048 - s.downCells - 24 * s.reserve) -
        ((List.finRange 24).map fun l => (s.lane l).occupancy - s.reserve).sum
  then ({ s with squeezed := false }).offerDevice .poolRelief else s

/-- R17: an accumulator place after an event of kind `k` at time `now` is gathered there. -/
def gathered (k : EventKind) (now : Stamp) : Option NoticeEntry → Option NoticeEntry
  | none => some ⟨BitVec.ofNat 16 (2 ^ k.bit), now⟩
  | some e => some ⟨e.events ||| BitVec.ofNat 16 (2 ^ k.bit), e.first⟩

/-- R61: the packet memory is wholly free: no send queued or in flight, no upstream packet queued, no DATA_UP frame in a
slot. -/
def State.memoryUnused (s : State) : Prop :=
  (∀ l : LaneId, (s.lane l).sends = [] ∧ (s.lane l).upstream.queue = []) ∧
    ∀ o l records, s.transmitting ≠ some (.dataUp o l records) ∧ s.staged ≠ some (.dataUp o l records)

/-- R122, R123: key, code, residual, further count and recording time of a record as they are reported. -/
def Sense.reported (r : Sense) : List Byte :=
  match r.held with
  | none => [0, 0, 0xFF, 0xFF] ++ le8 r.further ++ [0, 0, 0, 0]
  | some h => le8 h.cond.key ++ le8 h.cond.code ++ residualBytes h.cond.residual ++ le8 r.further ++ le32 h.time.toNat

/-! ### Terms of one lane -/

/-- R59, after an admission or SET_LANE_OPTIONS: a pool that is not squeezed and has fewer than 9 shared free cells enters
squeeze and offers POOL_SQUEEZE. -/
def State.enterSqueeze (s : State) : State :=
  if s.squeezed = false ∧
      (2048 - s.downCells - 24 * s.reserve) -
        ((List.finRange 24).map fun l => (s.lane l).occupancy - s.reserve).sum < 9
  then ({ s with squeezed := true }).offerDevice .poolSqueeze else s

/-- R78, R57: a lane's upstream queue is discarded, its cells are released, and flow hold and squeeze are evaluated. -/
def State.upstreamDiscarded (s : State) (l : LaneId) : State :=
  (s.onLane l fun L =>
    { L with
      upstream := { L.upstream with queue := [], packTimer := none, eligible := false }
      occupancy := L.occupancy - recordCells L.upstream.queue
      flowHeld := if L.occupancy - recordCells L.upstream.queue ≤ L.options.low then false else L.flowHeld
    }).leaveSqueeze

/-- R28, R29: the state of a link that enters WAITING: ATTACHING in the same event where a device is present. -/
def LaneState.connected (L : LaneState) : LinkState :=
  if L.link.connectPresent = true then .attaching ⟨L.options.attachLimit * 1000, .resetting 50000⟩ else .waiting

/-- R44, R48: the state of a link after a fresh attach is asked for. -/
def LaneState.reattached (L : LaneState) : LinkState :=
  if L.link.state = .disabled then .disabled else if L.link.state = .vacant then .vacant else L.connected

/-- R26, R29: the link of lane `l` is in a state that it enters; an entry to ATTACHING zeroes the error count. -/
def State.linkEnters (s : State) (l : LaneId) (k : LinkState) : State :=
  s.onLane l fun L =>
    { L with link := { L.link with state := k, errorCount := if k.code = 3 then 0 else L.link.errorCount } }

/-- R41: the three poll conditions of a lane. -/
def State.pollConditions (s : State) (l : LaneId) : Prop :=
  (s.lane l).link.state = .up ∧ (s.lane l).flowHeld = false ∧ (s.squeezed = false ∨ (s.lane l).occupancy < s.reserve)

/-- R136: the active window place is free. -/
def ActiveWindow.resting (w : ActiveWindow) : Prop := w = .idle ∨ (∃ p, w = .done p) ∨ ∃ p, w = .aborted p

/-- R161: the source of the lane's lamp is true. -/
def LaneState.showsSource (L : LaneState) : Prop :=
  match L.lamp.source with
  | .off => False
  | .on => True
  | .linkUp => L.link.state = .up
  | .activity => L.activity ≠ none
  | .held => L.claim ≠ none
  | .condition => ∃ c h, L.claim = some c ∧ L.sense[c.beneficiary].held = some h ∧ 6 ≤ h.cond.key
  | .stroking => L.strokes.state.code = 1
  | .keep => L.keep = true
  | .supplyOn => L.supply.state = .on
  | .tripped => L.supply.state = .tripped

/-! ### What the resets leave -/

/-- What a station link reset makes of one lane (R23, R91, R92): the returned records go to the head of its queue, which
starts the pack timer of an empty queue and has eligibility evaluated; STATION_RESTART is set for all eight; nothing else
changes. -/
def LaneState.restarted (returned : List PacketRecord) (L K : LaneState) : Prop :=
  { K with upstream := L.upstream, sense := L.sense } = L ∧
  (∀ o : Originator, K.sense[o] = { L.sense[o] with causes := L.sense[o].causes ||| 2 }) ∧
  K.upstream.queue = returned ++ L.upstream.queue ∧
  { K.upstream with queue := L.upstream.queue, packTimer := L.upstream.packTimer, eligible := L.upstream.eligible } =
    L.upstream ∧
  (returned = [] → K.upstream = L.upstream) ∧
  (returned ≠ [] →
    if packReady L.options K.upstream.queue = true then K.upstream.eligible = true ∧ K.upstream.packTimer = none
    else K.upstream.eligible = L.upstream.eligible ∧
      K.upstream.packTimer = if L.upstream.queue = [] then some (L.options.packTimer * 100) else L.upstream.packTimer)

/-- What `d` µs make of a lane: each of its running timers loses them, one whose time is over stays at 0, and nothing else
changes (log 2). -/
def LaneState.aged (d : Nat) (L K : LaneState) : Prop :=
  let run : Timer → Timer := fun t => t.map fun left => left - d
  let read : Poll → Poll := fun p => ⟨p.bytes, p.count, run p.nakTimer⟩
  ∃ (link : LinkState) (out : OutEngine) (inn : InEngine) (strokes : StrokeState),
    K = { L with
      link := { L.link with
        state := link, connectQual := run L.link.connectQual, out := out, inn := inn, clearRetry := run L.link.clearRetry }
      upstream := { L.upstream with packTimer := run L.upstream.packTimer }
      supply := { L.supply with nextSample := run L.supply.nextSample }
      strokes := { L.strokes with state := strokes }
      nest := { L.nest with qual := run L.nest.qual }
      activity := run L.activity } ∧
    (((∀ a, L.link.state ≠ .attaching a) → link = L.link.state) ∧
      (∀ left w, L.link.state = .attaching ⟨left, .resetting w⟩ → link = .attaching ⟨left - d, .resetting (w - d)⟩) ∧
      (∀ left e w, L.link.state = .attaching ⟨left, .enumerating e w⟩ →
        link = .attaching ⟨left - d, .enumerating e (run w)⟩) ∧
      (∀ left w, L.link.state = .attaching ⟨left, .identifying .request w⟩ →
        link = .attaching ⟨left - d, .identifying .request (run w)⟩) ∧
      ∀ left p w, L.link.state = .attaching ⟨left, .identifying (.reading p) w⟩ →
        link = .attaching ⟨left - d, .identifying (.reading (read p)) (run w)⟩) ∧
    ((L.link.out = .idle → out = .idle) ∧
      (∀ f left, L.link.out = .sending f left → out = .sending f (left - d)) ∧
      ∀ f left, L.link.out = .retryWait f left → out = .retryWait f (left - d)) ∧
    ((∀ p, L.link.inn = .idle p → inn = .idle (p.map read)) ∧
      (∀ p, L.link.inn = .polling p → inn = .polling (read p)) ∧
      ∀ left p, L.link.inn = .pollWait left p → inn = .pollWait (left - d) (p.map read)) ∧
    (L.strokes.state = .idle → strokes = .idle) ∧
    (∀ instant left, L.strokes.state = .pending instant left → strokes = .pending instant (left - d)) ∧
    (∀ step left, L.strokes.state = .step step left → strokes = .step step (left - d)) ∧
    (∀ left, L.strokes.state = .gap left → strokes = .gap (left - d)) ∧
    ∀ left, L.strokes.state = .stopping left → strokes = .stopping (left - d)

/-- What a station link reset makes of the part (R23), beside the port's own state. -/
def State.restarted (s t : State) : Prop :=
  { t with port := s.port, vbus := s.vbus, suspended := s.suspended, originators := s.originators, lanes := s.lanes } =
    { s with rx := Rx.idle, ready := [], transmitting := none, staged := none } ∧
  (∀ o : Originator, t.orig o = { s.orig o with pacing := none, accumulator := Vector.replicate 25 none }) ∧
  ∀ l : LaneId,
    LaneState.restarted (recordsFor l s.transmitting ++ recordsFor l s.staged) (s.lane l) (t.lane l)

/-- A lane as a device reset leaves it (R47, R48, R64, R66, R100, R101, R128, R144, R145, R148, R157, R162, R163,
R164), but for the two pins and the timers that they and the converter start. -/
def LaneState.fresh (L : LaneState) : Prop :=
  (L.link.state = .vacant ∧ L.link.connectPresent = false ∧ L.link.epoch = 0 ∧ L.link.identity = none ∧
    L.link.out = .idle ∧ L.link.inn = .idle none ∧ L.link.clearings = [] ∧ L.link.clearRetry = none ∧
    L.link.address = 0 ∧ L.link.function = none ∧ L.link.outToggle = false ∧ L.link.inToggle = false ∧
    L.link.errorCount = 0 ∧ L.link.recovered = 0) ∧
  L.options = ⟨5000, 500, 4, false, 256, 64, 32, 0, 0, false, false, false, false⟩ ∧
  (L.send.queue = [] ∧ L.send.halted = false) ∧
  L.upstream = ⟨[], none, false, 0, false, 0, 0, 0⟩ ∧
  (L.occupancy = 0 ∧ L.flowHeld = false ∧ L.claim = none) ∧
  (∀ o : Originator, L.sense[o] = ⟨none, 0, 1⟩) ∧
  (L.supply.state = .off ∧ L.supply.source = .bus ∧ L.supply.millivolts = 3800 ∧ L.supply.tripLevel = 3000 ∧
    L.supply.tripCount = 4 ∧ L.supply.blanking = 40 ∧ L.supply.blankCount = 0 ∧ L.supply.blankPassed = false ∧
    L.supply.tripRun = 0 ∧
    L.supply.active = .idle ∧ L.supply.staged = none ∧ L.supply.result = none) ∧
  L.strokes = ⟨.idle, false, false, [], 0, false, 30, 2, []⟩ ∧
  (L.nest.seated = false ∧ L.lamp = ⟨.linkUp, false, false⟩ ∧ L.keep = false ∧ L.activity = none)

/-- The part as a device reset leaves it (R24, R64, R100, R128, R86, R94), but for the port and the pins. -/
def State.fresh (s : State) : Prop :=
  (s.rx = Rx.idle ∧ s.ready = [] ∧ s.transmitting = none ∧ s.staged = none ∧ s.served = 7 ∧ s.timebase = 0 ∧
    s.resetPending = false) ∧
  (∀ o : Originator, s.orig o = ⟨0, false, 0, none, Vector.replicate 25 none⟩) ∧
  (s.downCells = 768 ∧ s.reserve = 16 ∧ s.downHeld = 0 ∧ s.squeezed = false) ∧
  (∀ i : Fin 256, s.classes[i] = .deliver) ∧
  (s.prioPointer = 23 ∧ s.normPointer = 23 ∧ s.runCount = 0) ∧
  (∀ o : Originator, s.deviceSense[o] = ⟨none, 0, 0⟩) ∧
  ∀ l : LaneId, (s.lane l).fresh

/-- A device reset keeps the pins, and what is running while the part is out of hard reset starts at it: the
qualifications of a line that shows a device and of a nest that reads seated, and the converter's first 250 µs (R25,
R132, R157, logs 7 and 8). -/
def State.pinsKept (running : Bool) (s t : State) : Prop :=
  ∀ l : LaneId,
    (t.lane l).link.line = (s.lane l).link.line ∧ (t.lane l).nest.raw = (s.lane l).nest.raw ∧
    (t.lane l).link.connectQual = (if running && (s.lane l).link.line then some 100000 else none) ∧
    (t.lane l).nest.qual = (if running && (s.lane l).nest.raw then some 20000 else none) ∧
    (t.lane l).supply.nextSample = (if running then some 250 else none)

/-! ### Invariants of a safe run -/

/-- R116: a record whose key is NONE has a further count of 0, and no count passes 255. -/
def Sense.sound (r : Sense) : Prop := (r.held = none → r.further = 0) ∧ r.further ≤ 255

/-- R116 in all 200 records. -/
def State.sensesSound (s : State) : Prop :=
  (∀ (l : LaneId) (o : Originator), (s.lane l).sense[o].sound) ∧ ∀ o : Originator, s.deviceSense[o].sound

/-- R26, R66: at most 16 sends are queued; while the link is not UP the send queue is empty, both engines are IDLE
with no poll under way, and no stall clearing is under way. -/
def LaneState.sendsSound (L : LaneState) : Prop :=
  L.send.queue.length ≤ 16 ∧
    (L.link.state ≠ .up →
      L.send.queue = [] ∧ L.link.out = .idle ∧ L.link.inn = .idle none ∧ L.link.clearings = [] ∧
        L.link.clearRetry = none)

/-- R145: the keys that a stroke state drives. -/
def StrokeState.keys : StrokeState → Bool × Bool
  | .step current _ => (current.keyA, current.keyB)
  | .idle => (false, false)
  | .pending _ _ => (false, false)
  | .gap _ => (false, false)
  | .stopping _ => (false, false)

/-- R145, R155, R131, R159: a key is driven when, and only when, a current step names it; at most 16 steps are queued;
and while the nest is EMPTY the supply is not ON and no run is under way, so that no key is driven. -/
def LaneState.fixtureSound (L : LaneState) : Prop :=
  (L.strokes.keyA, L.strokes.keyB) = L.strokes.state.keys ∧ L.strokes.queue.length ≤ 16 ∧
    (L.nest.seated = false → L.supply.state ≠ .on ∧ L.strokes.state.code ≠ 1)

/-- R62, R54: the marks of a lane are in order, and its occupancy is within its cap. -/
def LaneState.marksSound (L : LaneState) : Prop :=
  9 ≤ L.options.high ∧ L.options.high ≤ L.options.cap ∧ L.options.low + 9 ≤ L.options.high ∧
    L.occupancy ≤ L.options.cap

/-- The cells of lane `l` that a frame slot holds (R53). -/
def slotCells (l : LaneId) (f : Option Frame) : Nat := recordCells (recordsFor l f)

/-- R49, R51, R53, R54: the counts of the packet memory are the cells of what is stored, downstream and on every lane;
the downstream region holds its sends; and the total borrowing never exceeds the shared pool. -/
def State.cellsSound (s : State) : Prop :=
  s.downCells ≤ 2048 ∧ 24 * s.reserve ≤ 2048 - s.downCells ∧
    s.downHeld = ((List.finRange 24).map fun l => (((s.lane l).sends).map SendRecord.cells).sum).sum ∧
    s.downHeld ≤ s.downCells ∧
    (∀ l : LaneId, (s.lane l).occupancy =
      recordCells (s.lane l).upstream.queue + slotCells l s.transmitting + slotCells l s.staged) ∧
    ((List.finRange 24).map fun l => (s.lane l).occupancy - s.reserve).sum ≤ 2048 - s.downCells - 24 * s.reserve

/-- R6, R7: READY and RESERVED entries together never exceed 448, and while a frame has been begun an entry is FREE for
it; reception outside HUNT has begun a frame. -/
def State.repliesSound (s : State) : Prop :=
  s.ready.length + s.reservedEntries ≤ 448 ∧
    (s.rx.begun = true → s.ready.length + s.reservedEntries < 448) ∧
    (s.rx.begun = false → s.rx.phase = .hunt)

/-- A state that the part can be in, as far as the invariants say. -/
def State.safe (s : State) : Prop :=
  s.sensesSound ∧ (∀ l : LaneId, (s.lane l).sendsSound) ∧ (∀ l : LaneId, (s.lane l).fixtureSound) ∧
    (∀ l : LaneId, (s.lane l).marksSound) ∧ s.cellsSound ∧ s.repliesSound

/-- A safe run: every state of it is safe, and no step ends in a fault or a refusal. -/
def safeRun : Nat → State → Prop
  | 0, s => s.safe
  | n + 1, s => s.safe ∧ ∃ t, step s = .next t ∧ safeRun n t

end Sys2Proof.Machine
end

