-- ==== Sys2Proof/Certificates/Slice0/Obligations.lean ====
section
/-! DEFINITION. The statements about the M24. Requests are stated for an OUT side that hears (Safety.lean) and a
requester that passes the attention and ownership steps, or says how it fails them: a request command stands for its whole
frame, which arrives there (the model's form of a command, log 4). A command that ends a timer first lets the time left pass
(`advance`, the model's form, log 2). An equation `exec … = .next t` gives the whole next state, so everything that `t` does
not name is unchanged. -/

open Sys2Proof
open Sys2Proof.Machine

/-! ### Steps -/

/-- A step carries out the command at the front of the queue with the rest of the queue (the form of this row). On an
empty queue the part idles: 1 µs passes, and none while it is held in hard reset: the model's choice, logs 1 and 8. (What the
passing of time does is in InputsQualifyAndTimersExpire.) -/
def Obligations.StepRunsFrontCommand : Prop :=
  (∀ (c : Instr) (rest : List Instr) (s : State), s.pending = c :: rest →
    step s = exec c { s with pending := rest }) ∧
  ∀ s : State, s.pending = [] → step s = .next (if s.hardReset = true then s else s.advance 1)

/-- Every command ends in a next state, and its effect leaves the queue of waiting commands alone. -/
def Obligations.CommandsLeaveQueue : Prop :=
  ∀ (c : Instr) (s : State), ∃ t, exec c s = .next t ∧ t.pending = s.pending

/-! ### Reception -/

/-- R3, R4, R5: from HUNT, reception takes the bytes of any REQUEST frame as far as its last byte, and that byte's
judgement is the request that the frame was made of: originator, lane byte, code, tag and body. -/
def Obligations.RequestFrameIsReceived : Prop :=
  ∀ (rq : Request) (rest : List Byte) (x : Rx) (mayBegin : Bool), rq.body.length ≤ 4096 → x.phase = .hunt →
    x.got = [] → (x.begun || mayBegin) = true →
    ∃ (frame : List Byte) (last : Byte), requestFrame rq = frame ++ [last] ∧
      Rx.run mayBegin x (requestFrame rq ++ rest) = (⟨true, .crc, frame, x.buf⟩, last :: rest) ∧
      (⟨true, .crc, frame, x.buf⟩ : Rx).judges last = some (.request rq)

/-- R2, R4, R6, R22: the station pipes. An OUT data packet that finds the receive buffer empty is taken into it and received
as far as the next judgement; one that finds bytes there, or pipes that do not run, is NAKed. Packet boundaries do not
delimit frames: bytes that are all taken may come in one packet with those that follow, or apart. While no reply entry is
FREE, or a DEVICE_RESET is pending, the OUT side takes no byte of a new frame: a packet stays whole in the receive buffer, and
OUT_RESUME goes on with it once a frame may be begun. (That a packet is taken as far as the next judgement is log 5.) R3 and
section 1.2: the CRC starts at 0xFFFF and takes each byte by its polynomial 0x1021, most significant bit first, with no final
change; a built frame's bytes are its header, its body and the CRC over them, low byte first; a NOTICE has lane 255, code
and tag 0, and its entries of seven bytes; a DATA_UP frame has code and tag 0, and its packet records. They go to the host in
data packets of 512 bytes, the last one shorter, empty where the length is a whole multiple of 512. -/
def Obligations.StationPipesCarryBytes : Prop :=
  ((∀ (s : State) (bytes : List Byte), s.port = .configured → s.suspended = false → s.rx.buf = [] →
    bytes.length ≤ 512 →
    ∃ x rest, Rx.run s.mayBegin s.rx bytes = (x, rest) ∧
      exec (.outDataPacket bytes) s = .next (s.setRx (x.withBuf rest))) ∧
  (∀ (s : State) (bytes : List Byte), s.rx.buf ≠ [] ∨ s.port ≠ .configured ∨ s.suspended = true →
    exec (.outDataPacket bytes) s = .next s) ∧
  ∀ (mayBegin : Bool) (x y : Rx) (a b : List Byte), Rx.run mayBegin x a = (y, []) →
    Rx.run mayBegin x (a ++ b) = Rx.run mayBegin y b) ∧
  (∀ (s : State) (b : Byte) (bytes : List Byte), s.port = .configured → s.suspended = false → bytes.length < 512 →
    (s.rx = Rx.idle → s.freeEntries = 0 ∨ s.resetPending = true →
      exec (.outDataPacket (b :: bytes)) s = .next (s.setRx (Rx.idle.withBuf (b :: bytes))) ∧
      exec .outResume (s.setRx (Rx.idle.withBuf (b :: bytes))) =
        .next (s.setRx (Rx.idle.withBuf (b :: bytes)))) ∧
    (s.rx = Rx.idle.withBuf (b :: bytes) → 0 < s.freeEntries → s.resetPending = false →
      ∃ x rest, Rx.run true Rx.idle (b :: bytes) = (x, rest) ∧
        exec .outResume s = .next (s.setRx (x.withBuf rest)))) ∧
  (∀ bytes : List Byte, ∃ whole last, transferPackets bytes = whole ++ [last] ∧ whole.flatten ++ last = bytes ∧
    (∀ p ∈ whole, p.length = 512) ∧ last.length < 512) ∧
  (crc16 [] = 0xFFFF ∧ ∀ (bytes : List Byte) (b : Byte),
    let shift : BitVec 16 → BitVec 16 := fun c => if c.getLsbD 15 = true then (c <<< 1) ^^^ 0x1021 else c <<< 1
    crc16 (bytes ++ [b]) = Nat.iterate shift 8 (crc16 bytes ^^^ (b.zeroExtend 16 <<< 8))) ∧
  (∀ r : Reply, ∃ status : Byte,
    (r.status = .good → status = 0) ∧ (r.status = .check → status = 1) ∧ (r.status = .conflict → status = 2) ∧
    framed ([0x5A, 0xC3, 0x81, originatorByte r.originator, r.lane, r.code, r.tag, status] ++ le16 r.body.length ++ r.body)
      (frameBytes (.reply r))) ∧
  (∀ (o : Originator) (entries : List (Fin 25 × NoticeEntry)), ∃ body : List Byte,
    body = le8 entries.length ++ (entries.map fun e =>
      [if e.1.val = 24 then 255 else BitVec.ofNat 8 e.1.val] ++ le16 e.2.events.toNat ++ le32 e.2.first.toNat).flatten ∧
    framed ([0x5A, 0xC3, 0x82, originatorByte o, 255, 0, 0, 0] ++ le16 body.length ++ body)
      (frameBytes (.notice o entries))) ∧
  ∀ (o : Originator) (l : LaneId) (records : List PacketRecord), ∃ (flags : PacketRecord → Byte) (body : List Byte),
    (∀ p, (flags p).getLsbD 0 = p.damaged ∧ (flags p).getLsbD 1 = p.urgent ∧ (flags p).getLsbD 2 = p.firstInEpoch ∧
      (flags p).toNat < 8) ∧
    body = (records.map fun p => le16 p.data.length ++ le16 p.seq.toNat ++ le16 p.epoch.toNat ++ [flags p] ++
      le8 p.dropsBefore ++ p.data).flatten ∧
    framed ([0x5A, 0xC3, 0x83, originatorByte o, laneByte l, 0, 0, 0] ++ le16 body.length ++ body)
      (frameBytes (.dataUp o l records))

/-- R5, R10 (the byte route of log 4): a request whose frame completes in the byte stream, with other bytes behind it, is carried out as if it had
arrived alone, and reception then goes on with those bytes (`pump`): it takes them as far as the next judgement, begins a frame
only where it may, and keeps the rest in the receive buffer (log 5); no other part of the state changes. -/
def Obligations.RequestFromTheByteStream : Prop :=
  (∀ (s : State) (x : Rx) (rest : List Byte),
    Rx.run (decide (0 < s.freeEntries ∧ s.resetPending = false)) (s.rx.withBuf []) s.rx.buf = (x, rest) →
    s.pump = { s with rx := { x with buf := rest } }) ∧
  ∀ (i : Instr) (rq : Request) (s : State), requestOf i = some rq → rq.body.length ≤ 4096 →
    s.port = .configured → s.suspended = false → 0 < s.freeEntries → s.resetPending = false →
    s.verdict = some (.request rq) →
    ∃ u, exec i (s.setRx Rx.idle) = .next u ∧
      exec i s = .next (u.setRx (Rx.idle.withBuf s.rx.buf.tail)).pump

/-- R4, R5: a frame that fails a frame check is judged at its last byte to be discarded: a body length above 4096 (the
frame is its first ten bytes), a CRC that does not match, a kind other than 0x01, an originator above 7. Its discard puts the
OUT side back into HUNT behind that byte, where it goes on with the bytes that follow, and leaves no trace in any block: a
frame that arrives alone leaves the state as it was. (The two forms of the command are log 4.) -/
def Obligations.DiscardedFrameLeavesNoTrace : Prop :=
  (∀ s : State, s.verdict = some .discard →
    exec (.frameDiscarded []) s = .next (s.setRx (Rx.idle.withBuf s.rx.buf.tail)).pump) ∧
  ∀ frame : List Byte,
    (∃ (kind originator lane code tag status : Byte) (body : List Byte), body.length ≤ 4096 ∧
      (kind ≠ 0x01 ∨ 7 < originator.toNat) ∧ frame = stationFrame kind originator lane code tag status body) ∨
    (∃ (kind originator lane code tag status lo hi : Byte) (body : List Byte), body.length ≤ 4096 ∧
      lo.toNat + 256 * hi.toNat ≠ (crc16 (frameHead kind originator lane code tag status body)).toNat ∧
      frame = frameHead kind originator lane code tag status body ++ [lo, hi]) ∨
    (∃ (h : List Byte) (lo hi : Byte), h.length = 6 ∧ 4096 < lo.toNat + 256 * hi.toNat ∧
      frame = [0x5A, 0xC3] ++ h ++ [lo, hi]) →
    discardsFrame frame ∧ ∀ s : State, s.hears → exec (.frameDiscarded frame) s = .next s

/-! ### The request checks -/

/-- R9 step 1, R117: a request that is not well formed is refused with the first check it fails: a code that names no
request, a lane byte that does not fit the scope, a body length that the field list does not allow. The condition goes to
the requester's record for the lane byte where that is 0 to 23, and to its device record otherwise. Section 1.2, R114, R115:
the short sense of a CHECK reply is the condition's key, its code and its residual, 0xFFFF where there is none; the three checks
have key ILLEGAL, codes 1 to 3 and no residual. (Every condition's key, code and residual are in RecordingRule.) -/
def Obligations.IllFormedRequestsRefused : Prop :=
  (∀ (s : State) (c : Cond) (code tag : Byte) (o : Originator) (l : LaneId),
    let bytes : List Byte := [BitVec.ofNat 8 c.key, BitVec.ofNat 8 c.code] ++ le16 (c.residual.getD 65535)
    s.checkReply c code tag o l = (s.recordLane c o l).pushReply ⟨o, laneByte l, code, tag, .check, bytes⟩ ∧
    s.checkDevice c code tag o = (s.recordDevice c o).pushReply ⟨o, 255, code, tag, .check, bytes⟩) ∧
  ∀ (i : Instr) (rq : Request) (c : Cond) (s : State), requestOf i = some rq → s.hears →
    rq.body.length ≤ 4096 → rq.formFault = some c →
    ∃ bytes : List Byte,
      ((c = .unknownRequest ∧ bytes = [3, 1, 0xFF, 0xFF]) ∨ (c = .badLane ∧ bytes = [3, 2, 0xFF, 0xFF]) ∨
        (c = .badLength ∧ bytes = [3, 3, 0xFF, 0xFF])) ∧
      exec i s = .next
        ((if h : rq.lane.toNat < 24 then s.recordLane c rq.originator ⟨rq.lane.toNat, h⟩
          else s.recordDevice c rq.originator).pushReply
          ⟨rq.originator, rq.lane, rq.code, rq.tag, .check, bytes⟩)

/-- R9 step 2, R126: an acting lane-scope request of an originator with attention pending on the lane is refused CHECK
ATTENTION with the cause set as code and no residual; the record's cause set becomes empty, and nothing else changes. (So also right after a nest event, where R131,
R160 and R164 name other outcomes: the model's reading, log 33.) -/
def Obligations.AttentionRefusesAndClears : Prop :=
  ∀ (i : Instr) (rq : Request) (r : RequestRow) (l : LaneId) (s : State), requestOf i = some rq → s.hears →
    rq.formFault = none → requestRow rq.code = some r → r.device = false → r.acting = true →
    rq.lane = laneByte l → (s.lane l).sense[rq.originator].causes ≠ 0 →
    exec i s = .next
      ((s.onLane l fun L =>
          { L with sense := L.sense.set rq.originator { L.sense[rq.originator] with causes := 0 } }).pushReply
        ⟨rq.originator, rq.lane, rq.code, rq.tag, .check,
          [9, (s.lane l).sense[rq.originator].causes, 0xFF, 0xFF]⟩)

/-- R9 step 3, R102, R11: on a lane that is HELD for another beneficiary, every acting lane-scope request but the three
claim requests is refused CONFLICT, and nothing else changes. -/
def Obligations.ConflictOnAnothersLane : Prop :=
  ∀ (i : Instr) (rq : Request) (r : RequestRow) (l : LaneId) (c : Claim) (s : State), requestOf i = some rq →
    s.hears → rq.formFault = none → requestRow rq.code = some r → r.device = false → r.acting = true →
    r.claims = false → rq.lane = laneByte l → (s.lane l).sense[rq.originator].causes = 0 →
    (s.lane l).claim = some c → c.beneficiary ≠ rq.originator →
    exec i s = .next (s.pushReply ⟨rq.originator, rq.lane, rq.code, rq.tag, .conflict, [0, 0, 0xFF, 0xFF]⟩)

/-! ### The station port and the resets -/

/-- R1: the host's selection of the configuration, VBUS, suspension and its end. That a bus reset and the loss of VBUS end
a suspension is the model's reading, log 17. -/
def Obligations.PortEntries : Prop :=
  ∀ s : State,
    (s.port = .unconfigured → s.suspended = false →
      exec .setConfiguration s = .next { s with port := .configured }) ∧
    (s.port = .detached → s.hardReset = false →
      exec .vbusPresent s = .next { s with vbus := true, port := .unconfigured }) ∧
    (s.port ≠ .detached → exec .suspend s = .next { s with suspended := true }) ∧
    exec .resume s = .next { s with suspended := false } ∧
    (s.port = .unconfigured → exec .busReset s = .next { s with suspended := false }) ∧
    (s.port = .unconfigured →
      exec .vbusLoss s = .next { s with port := .detached, vbus := false, suspended := false })

/-- R1, R23: a CONFIGURED port that leaves that state, by deconfiguration, a bus reset or the loss of VBUS, carries out
the station link reset. (Suspension: log 17.) -/
def Obligations.LeavingConfiguredRestartsLink : Prop :=
  ∀ s : State, s.port = .configured → s.resetPending = false →
    (s.suspended = false →
      ∃ t, exec .deconfigure s = .next t ∧ t.port = .unconfigured ∧ t.vbus = s.vbus ∧ t.suspended = false ∧
        s.restarted t) ∧
    (∃ t, exec .busReset s = .next t ∧ t.port = .unconfigured ∧ t.vbus = s.vbus ∧ t.suspended = false ∧
      s.restarted t) ∧
    ∃ t, exec .vbusLoss s = .next t ∧ t.port = .detached ∧ t.vbus = false ∧ t.suspended = false ∧ s.restarted t

/-- R22, R24: DEVICE_RESET is answered GOOD and puts the station link in reset-pending; the device reset takes place when
the IN transfer of that reply completes, the port staying CONFIGURED, or when the port leaves CONFIGURED before, in place
of the station link reset. (That the pins outlive a device reset is the model's reading, log 7. The reset values of a link's
address, function and data toggles, logs 23 and 29, and of the flag blankPassed, log 30, are the model's.) -/
def Obligations.DeviceResetWaitsForItsReply : Prop :=
  (∀ (s : State) (o : Originator) (tag : Byte), s.hears →
    exec (.deviceReset o 255 tag []) s =
      .next ({ s with resetPending := true }.pushReply ⟨o, 255, 0x02, tag, .good, []⟩)) ∧
  (∀ (s : State) (r : Reply), s.port = .configured → s.suspended = false → s.resetPending = true →
    s.transmitting = some (.reply r) → r.code = 0x02 → r.status = .good →
    ∃ t, exec .inTransferDone s = .next t ∧ t.fresh ∧ s.pinsKept true t ∧ t.port = .configured ∧ t.vbus = s.vbus ∧
      t.hardReset = s.hardReset ∧ t.suspended = s.suspended) ∧
  ∀ s : State, s.port = .configured → s.resetPending = true →
    (s.suspended = false → ∃ t, exec .deconfigure s = .next t ∧ t.fresh ∧ s.pinsKept true t ∧ t.port = .unconfigured) ∧
    (∃ t, exec .busReset s = .next t ∧ t.fresh ∧ s.pinsKept true t ∧ t.port = .unconfigured) ∧
    ∃ t, exec .vbusLoss s = .next t ∧ t.fresh ∧ s.pinsKept true t ∧ t.port = .detached

/-- R24, R163: a hard reset leaves every block at its reset state with the port DETACHED and every lamp dark; at its
release, with VBUS present, the port becomes UNCONFIGURED. (That no timer runs in between is the model's reading, log 8, and that
the pins stay and the qualifications start again at the release, log 7. The reset values of a link's address, function and data
toggles, logs 23 and 29, and of the flag blankPassed, log 30, are the model's.) -/
def Obligations.HardResetAndRelease : Prop :=
  ∀ s : State,
    (∃ t, exec .hardReset s = .next t ∧ t.fresh ∧ s.pinsKept false t ∧ t.port = .detached ∧ t.hardReset = true ∧
      t.vbus = s.vbus ∧ ∀ l : LaneId, t.lampLit l = false) ∧
    (s.hardReset = true →
      ∃ t, exec .hardResetRelease s = .next t ∧ t.fresh ∧ s.pinsKept true t ∧ t.hardReset = false ∧
        t.vbus = s.vbus ∧ t.port = (if s.vbus = true then .unconfigured else .detached))

/-! ### The IN arbiter and the notices -/

/-- R12, R13, R18: a CONFIGURED, running port with a slot EMPTY builds one frame, into the transmitting slot if that is
EMPTY and into the staged slot otherwise. The oldest READY reply goes first and its entry becomes FREE; with no reply, the
first originator after the one served last that qualifies has its whole accumulator moved into a notice; with neither, the
lane that R94 chooses has a DATA_UP frame built for its beneficiary from the head of its queue, and its cells stay counted.
With no slot EMPTY, or pipes that do not run, nothing is built. -/
def Obligations.FrameBuildServesSourcesInOrder : Prop :=
  ∀ s : State,
    (s.port ≠ .configured ∨ s.suspended = true ∨ (s.transmitting ≠ none ∧ s.staged ≠ none) →
      exec .frameBuild s = .next s) ∧
    (s.port = .configured → s.suspended = false → s.transmitting = none ∨ s.staged = none →
      (∀ (r : Reply) (rest : List Reply), s.ready = r :: rest →
        exec .frameBuild s = .next ({ s with ready := rest }.withBuilt (.reply r))) ∧
      (s.ready = [] → ∀ o : Originator, NextAfter s.served s.wantsNotice o →
        exec .frameBuild s = .next
          (({ s with served := o }.onOriginator o fun q =>
              { q with accumulator := Vector.replicate 25 none }).withBuilt
            (.notice o ((List.finRange 25).filterMap fun p =>
              Option.map (fun e => (p, e)) ((s.orig o).accumulator[p]))))) ∧
      (s.ready = [] → (∀ o : Originator, ¬ s.wantsNotice o) → ∀ (l : LaneId) (t : State) (c : Claim),
        s.chooseLane = some (l, t) → (s.lane l).claim = some c →
        exec .frameBuild s = .next
          ((t.onLane l fun L =>
              { L with
                upstream :=
                  if (takeRecords 4096 L.upstream.queue).2 = [] then
                    { L.upstream with queue := [], packTimer := none, eligible := false }
                  else { L.upstream with queue := (takeRecords 4096 L.upstream.queue).2 } }).withBuilt
            (.dataUp c.beneficiary l (takeRecords 4096 (s.lane l).upstream.queue).1))) ∧
      (s.ready = [] → (∀ o : Originator, ¬ s.wantsNotice o) → s.chooseLane = none → exec .frameBuild s = .next s))

/-- R93: the records of a DATA_UP frame are the head of the queue, whole and in order; the body stays within 4096 bytes
and holds at least one record; an URGENT record is the last; and taking stops only at the end of the queue, after an URGENT
record, or at a record that would not fit. -/
def Obligations.DataUpTakesTheHeadOfTheQueue : Prop :=
  ∀ queue : List PacketRecord, queue ≠ [] → (∀ p ∈ queue, p.data.length ≤ 1024) →
    ∃ taken last stay, takeRecords 4096 queue = (taken ++ [last], stay) ∧ taken ++ last :: stay = queue ∧
      queuedBytes (taken ++ [last]) ≤ 4096 ∧ (∀ p ∈ taken, p.urgent = false) ∧
      ∀ p more, stay = p :: more →
        last.urgent = true ∨ 4096 < queuedBytes (taken ++ [last]) + (p.data.length + 8)

/-- R94: the choice of the lane whose DATA_UP frame is built, by the priority and normal candidates (HELD and eligible
lanes), the two pointers and the run count. -/
def Obligations.LaneChoiceAlternatesClasses : Prop :=
  ∀ s : State,
    (∀ n : LaneId, NextAfter s.normPointer (s.isCandidate false) n →
      (8 ≤ s.runCount ∨ ∀ p : LaneId, ¬ s.isCandidate true p) →
      s.chooseLane = some (n, { s with normPointer := n, runCount := 0 })) ∧
    (∀ p : LaneId, NextAfter s.prioPointer (s.isCandidate true) p →
      (s.runCount < 8 ∨ ∀ n : LaneId, ¬ s.isCandidate false n) →
      s.chooseLane = some (p, { s with prioPointer := p, runCount := min 8 (s.runCount + 1) })) ∧
    ((∀ (b : Bool) (l : LaneId), ¬ s.isCandidate b l) → s.chooseLane = none)

/-- R12, R14, R19, R57 to R59: the completion of an IN transfer empties the transmitting slot and moves the staged frame
up. A reply has no further effect (but for that of a pending DEVICE_RESET); a notice starts its originator's pacing timer,
which an interval of 0 leaves idle and which is idle again when it expires; a DATA_UP frame releases its cells, with the
lane's flow hold and the pool's squeeze evaluated. -/
def Obligations.InTransferDoneEffects : Prop :=
  (∀ s : State, s.port = .configured → s.suspended = false →
    (∀ r : Reply, s.transmitting = some (.reply r) → s.resetPending = false ∨ r.code ≠ 0x02 ∨ r.status ≠ .good →
      exec .inTransferDone s = .next { s with transmitting := s.staged, staged := none }) ∧
    (∀ (o : Originator) (entries : List (Fin 25 × NoticeEntry)), s.transmitting = some (.notice o entries) →
      exec .inTransferDone s = .next
        ({ s with transmitting := s.staged, staged := none }.onOriginator o fun q =>
          { q with pacing := if q.interval = 0 then none else some (q.interval * 100) })) ∧
    ∀ (o : Originator) (l : LaneId) (records : List PacketRecord), s.transmitting = some (.dataUp o l records) →
      exec .inTransferDone s = .next
        (({ s with transmitting := s.staged, staged := none }.onLane l fun L =>
          { L with
            occupancy := L.occupancy - recordCells records
            flowHeld := if L.occupancy - recordCells records ≤ L.options.low then false else L.flowHeld
          }).leaveSqueeze)) ∧
  ∀ (s : State) (o : Originator) (left : Nat), (s.orig o).pacing = some left →
    exec (.pacingTimerExpiry o) s = .next ((s.advance left).onOriginator o fun q => { q with pacing := none })

/-- R16, R17: an event reaches an originator whose mask has its kind open and, for a lane event, that watches all lanes or
is the lane's holder or beneficiary. It is gathered under its place: a new entry takes the event's time, an entry that
exists keeps its first time and adds the kind. Nothing else of the originator changes, and no other place. -/
def Obligations.EventsReachAndGather : Prop :=
  ∀ (s : State) (k : EventKind) (o : Originator),
    (∀ l : LaneId, ∃ q, (s.offerLane k l).orig o = { s.orig o with accumulator := q } ∧
      ∀ p : Fin 25, q[p] =
        if (s.orig o).mask.getLsbD k.bit = true ∧
            ((s.orig o).watch = true ∨ ∃ c, (s.lane l).claim = some c ∧ (c.holder = o ∨ c.beneficiary = o)) ∧
            p.val = l.val
        then gathered k s.timebase (s.orig o).accumulator[p] else (s.orig o).accumulator[p]) ∧
    ∃ q, (s.offerDevice k).orig o = { s.orig o with accumulator := q } ∧
      ∀ p : Fin 25, q[p] =
        if (s.orig o).mask.getLsbD k.bit = true ∧ p.val = 24
        then gathered k s.timebase (s.orig o).accumulator[p] else (s.orig o).accumulator[p]

/-! ### Device-scope requests -/

/-- R21: DEVICE_STATUS changes no state and replies with the 41 bytes, the request's own entry counted as RESERVED. -/
def Obligations.DeviceStatusReports : Prop :=
  ∀ (s : State) (o : Originator) (tag : Byte), s.hears →
    ∃ states : List Byte, (∀ l : LaneId, states[l.val]? = some (BitVec.ofNat 8 (s.lane l).link.state.code)) ∧
      states.length = 24 ∧
      exec (.deviceStatus o 255 tag []) s = .next (s.pushReply ⟨o, 255, 0x01, tag, .good,
        le32 s.timebase.toNat ++ [1] ++ le16 s.downCells ++ le16 (2048 - s.downCells) ++ le8 s.reserve ++
          le16 (2048 - s.downCells - 24 * s.reserve) ++
          le16 ((List.finRange 24).map fun l => (s.lane l).occupancy - s.reserve).sum ++
          [if s.squeezed then 1 else 0] ++ states ++
          le16 (447 - (s.ready.length + s.reservedEntries))⟩)

/-- R61: CONFIGURE_POOL: the clamps, the split check, the use check, and the application with flow holds evaluated and a
squeeze ended. -/
def Obligations.ConfigurePoolSplits : Prop :=
  ∀ (s : State) (o : Originator) (tag d0 d1 g0 : Byte), s.hears →
    let d := max 256 (min (d0.toNat + 256 * d1.toNat) 1792) / 64 * 64
    let g := min g0.toNat 32
    let u := 2048 - d
    (u < 24 * g →
      exec (.configurePool o 255 tag [d0, d1, g0]) s = .next (s.checkDevice (.poolSplit (u / 24)) 0x03 tag o)) ∧
    (24 * g ≤ u → ¬ s.memoryUnused →
      exec (.configurePool o 255 tag [d0, d1, g0]) s = .next (s.checkDevice .poolInUse 0x03 tag o)) ∧
    (24 * g ≤ u → s.memoryUnused →
      exec (.configurePool o 255 tag [d0, d1, g0]) s = .next
        (((({ s with downCells := d, reserve := g, squeezed := false } : State).onLanes fun _ L =>
            { L with
              flowHeld := if L.options.high ≤ L.occupancy then true
                else if L.occupancy ≤ L.options.low then false else L.flowHeld }).offeredIf s.squeezed
            .poolRelief).pushReply
          ⟨o, 255, 0x03, tag, .good, le16 d ++ le16 u ++ le8 g ++ le16 (u - 24 * g)⟩))

/-- R96, R97, R86: SET_CLASS_ACTIONS writes the actions from the first class on and cuts the list at class 255, and is
refused with no entry changed if any action byte is above 3; READ_CLASS_ACTIONS reports them, from 1 to 256 of them and none
past class 255, and changes nothing; each is refused for a body length that it does not have. -/
def Obligations.ClassTableRequests : Prop :=
  ∀ (s : State) (o : Originator) (tag first : Byte), s.hears →
    (∀ actions : List ClassAction, actions ≠ [] → actions.length ≤ 256 →
      ∃ table : Vector ClassAction 256,
        (∀ i : Fin 256, table[i] =
          if first.toNat ≤ i.val then actions.getD (i.val - first.toNat) s.classes[i] else s.classes[i]) ∧
        exec (.setClassActions o 255 tag (first :: actions.map fun a => BitVec.ofNat 8 a.code)) s = .next
          ({ s with classes := table }.pushReply ⟨o, 255, 0x04, tag, .good,
            [first] ++ le16 (min actions.length (256 - first.toNat))⟩)) ∧
    (∀ actions : List Byte, actions.length ≤ 256 → (∃ a ∈ actions, 3 < a.toNat) →
      exec (.setClassActions o 255 tag (first :: actions)) s = .next (s.checkDevice .badField 0x04 tag o)) ∧
    (∀ body : List Byte, body.length ≤ 4096 → body.length < 2 ∨ 257 < body.length →
      exec (.setClassActions o 255 tag body) s = .next (s.checkDevice .badLength 0x04 tag o)) ∧
    (∀ body : List Byte, body.length ≤ 4096 → body.length ≠ 3 →
      exec (.readClassActions o 255 tag body) s = .next (s.checkDevice .badLength 0x05 tag o)) ∧
    ∀ c0 c1 : Byte,
      let n := min (max 1 (min (c0.toNat + 256 * c1.toNat) 256)) (256 - first.toNat)
      ∃ codes : List Byte, codes.length = n ∧
        (∀ i : Fin 256, i.val < n → ∀ k : Fin 256, k.val = first.toNat + i.val →
          codes[i.val]? = some (BitVec.ofNat 8 s.classes[k].code)) ∧
        exec (.readClassActions o 255 tag [first, c0, c1]) s = .next
          (s.pushReply ⟨o, 255, 0x05, tag, .good, [first] ++ le16 n ++ codes⟩)

/-- R15, R19: OPEN_NOTICES adds events and may set the watch flag; CLOSE_NOTICES removes them, also from every entry
gathered, and may clear the flag; both are refused for a named bit 14 or 15 or a watch above 1. SET_PACING sets the
interval and leaves a running timer. -/
def Obligations.NoticeRequests : Prop :=
  ∀ (s : State) (o : Originator) (tag e0 e1 watch : Byte), s.hears →
    let events : BitVec 16 := BitVec.ofNat 16 (e0.toNat + 256 * e1.toNat)
    (64 ≤ e1.toNat ∨ 1 < watch.toNat →
      exec (.openNotices o 255 tag [e0, e1, watch]) s = .next (s.checkDevice .badField 0x06 tag o) ∧
      exec (.closeNotices o 255 tag [e0, e1, watch]) s = .next (s.checkDevice .badField 0x07 tag o)) ∧
    (e1.toNat < 64 → watch.toNat ≤ 1 →
      (∀ m w, m = (s.orig o).mask ||| events → w = ((s.orig o).watch || watch == 1) →
        exec (.openNotices o 255 tag [e0, e1, watch]) s = .next
          ((s.onOriginator o fun q => { q with mask := m, watch := w }).pushReply
            ⟨o, 255, 0x06, tag, .good, le16 m.toNat ++ leFlag w⟩)) ∧
      (∀ m w, m = (s.orig o).mask &&& ~~~events → w = ((s.orig o).watch && watch != 1) →
        ∃ entries : Vector (Option NoticeEntry) 25,
          (∀ p : Fin 25, entries[p] =
            match (s.orig o).accumulator[p] with
            | none => none
            | some e => if e.events &&& ~~~events = 0 then none else some ⟨e.events &&& ~~~events, e.first⟩) ∧
          exec (.closeNotices o 255 tag [e0, e1, watch]) s = .next
            ((s.onOriginator o fun q => { q with mask := m, watch := w, accumulator := entries }).pushReply
              ⟨o, 255, 0x07, tag, .good, le16 m.toNat ++ leFlag w⟩))) ∧
    exec (.setPacing o 255 tag [e0, e1]) s = .next
      ((s.onOriginator o fun q => { q with interval := e0.toNat + 256 * e1.toNat }).pushReply
        ⟨o, 255, 0x08, tag, .good, [e0, e1]⟩)

/-- R149, R150, R127, R103: START_STROKES tests attention, ownership, stroke state and nest, each across every named lane,
and either refuses for all of them, with the lowest failing lane as residual, or starts all of them at the next whole
millisecond. (The start instant 0 at exactly 4,294,967,000 µs is the model's reading, log 32, and so is that attention comes
before the empty nest also right after the emptying, log 33.) -/
def Obligations.StartStrokesActsOnAllOrNone : Prop :=
  ∀ (s : State) (o : Originator) (tag b0 b1 b2 : Byte), s.hears →
    let named : LaneId → Prop := fun l => (b0.toNat + 256 * b1.toNat + 65536 * b2.toNat).testBit l.val = true
    let attends : LaneId → Prop := fun l => (s.lane l).sense[o].causes ≠ 0
    let owned : LaneId → Prop := fun l => ∃ c, (s.lane l).claim = some c ∧ c.beneficiary ≠ o
    let busy : LaneId → Prop := fun l => (s.lane l).strokes.state ≠ .idle ∨ (s.lane l).strokes.queue = []
    let vacated : LaneId → Prop := fun l => (s.lane l).nest.seated = false
    let i := Instr.startStrokes o 255 tag [b0, b1, b2]
    ((∀ l, ¬ named l) → exec i s = .next (s.checkDevice .badField 0x09 tag o)) ∧
    (∀ l, Lowest (fun k => named k ∧ attends k) l →
      ∃ causes : BitVec 8,
        (∀ b : Nat, causes.getLsbD b = true ↔ ∃ k, named k ∧ (s.lane k).sense[o].causes.getLsbD b = true) ∧
        ∃ t : State, exec i s = .next (t.pushReply ⟨o, 255, 0x09, tag, .check, [9, causes] ++ le16 l.val⟩) ∧
          { t with lanes := s.lanes } = s ∧
          ∀ k, (named k → t.lane k =
              { s.lane k with sense := (s.lane k).sense.set o { (s.lane k).sense[o] with causes := 0 } }) ∧
            (¬ named k → t.lane k = s.lane k)) ∧
    ((∀ k, named k → ¬ attends k) →
      (∀ l, Lowest (fun k => named k ∧ owned k) l →
        exec i s = .next (s.pushReply ⟨o, 255, 0x09, tag, .conflict, [0, 0] ++ le16 l.val⟩)) ∧
      ((∀ k, named k → ¬ owned k) →
        (∀ l, Lowest (fun k => named k ∧ busy k) l →
          exec i s = .next (s.checkDevice (.strokesBusy l.val) 0x09 tag o)) ∧
        ((∀ k, named k → ¬ busy k) →
          (∀ l, Lowest (fun k => named k ∧ vacated k) l →
            exec i s = .next (s.checkDevice (.nestEmpty (some l.val)) 0x09 tag o)) ∧
          ((∀ k, named k → ¬ vacated k) → (∃ k, named k) →
            let wait := min (1000 - s.timebase.toNat % 1000) (4294967296 - s.timebase.toNat)
            let instant : Stamp := s.timebase + BitVec.ofNat 32 wait
            ∃ t : State, exec i s = .next (t.pushReply ⟨o, 255, 0x09, tag, .good, le32 instant.toNat ++ [b0, b1, b2]⟩) ∧
              { t with lanes := s.lanes } = s ∧
              ∀ k, (named k → t.lane k =
                  { s.lane k with
                    strokes := { (s.lane k).strokes with
                      state := .pending instant wait, stepNumber := 0
                      lowArmed := decide ((s.lane k).strokes.lowMark < (s.lane k).strokes.queue.length) }
                    sense := (s.lane k).sense.set o { (s.lane k).sense[o] with held := none, further := 0 } }) ∧
                (¬ named k → t.lane k = s.lane k)))))

/-- R122, R123, R124: LANE_SENSE reports the requester's record and the lane's recovered count and epoch, and clears the
record and its causes, and the count where the requester is the beneficiary; DEVICE_SENSE reports and clears the device
record. -/
def Obligations.SenseRequestsReportAndClear : Prop :=
  ∀ (s : State) (o : Originator) (tag : Byte), s.hears →
    (∀ l : LaneId, ∀ r, r = (s.lane l).sense[o] →
      exec (.laneSense o (laneByte l) tag []) s = .next
        ((s.onLane l fun L =>
          { L with
            sense := L.sense.set o ⟨none, 0, 0⟩
            link := { L.link with
              recovered := if L.claim.map Claim.beneficiary = some o then 0 else L.link.recovered } }).pushReply
          ⟨o, laneByte l, 0x14, tag, .good,
            r.reported ++
              le16 (match r.held with | none => 0 | some h => (h.epoch.getD 0).toNat) ++
              [if r.causes = 0 then 0 else 1, r.causes] ++ le16 (s.lane l).link.recovered ++
              le16 (s.lane l).link.epoch.toNat⟩)) ∧
    ∀ r, r = s.deviceSense[o] →
      exec (.deviceSense o 255 tag []) s = .next
        ({ s with deviceSense := s.deviceSense.set o { r with held := none, further := 0 } }.pushReply
          ⟨o, 255, 0x0A, tag, .good, r.reported⟩)

/-! ### Lane-scope requests -/

/-- R104, R105: CLAIM_LANE takes a FREE lane for the named beneficiary at the current timebase, re-points a lane that the
requester holds, and meets CONFLICT on another's; an on-behalf-of above 7 is refused, before the claim is looked at (the
model's reading, log 11). -/
def Obligations.ClaimLaneTakesOrRepoints : Prop :=
  ∀ (s : State) (o n : Originator) (l : LaneId) (tag : Byte) (body : List Byte), s.hears →
    (s.lane l).sense[o].causes = 0 →
    (((body = [] ∧ n = o) ∨ ∃ b : Byte, body = [b] ∧ b.toNat = n.val) →
      ((s.lane l).claim = none →
        exec (.claimLane o (laneByte l) tag body) s = .next
          ((s.onLane l fun L => { L with claim := some ⟨o, n, s.timebase⟩ }).goodReply 0x10 tag o l
            ([originatorByte o, originatorByte n] ++ le32 s.timebase.toNat))) ∧
      ∀ c, (s.lane l).claim = some c →
        (c.holder = o →
          exec (.claimLane o (laneByte l) tag body) s = .next
            ((s.onLane l fun L => { L with claim := some ⟨o, n, c.time⟩ }).goodReply 0x10 tag o l
              ([originatorByte o, originatorByte n] ++ le32 c.time.toNat))) ∧
        (c.holder ≠ o →
          exec (.claimLane o (laneByte l) tag body) s = .next
            (s.pushReply ⟨o, laneByte l, 0x10, tag, .conflict, [0, 0, 0xFF, 0xFF]⟩))) ∧
    ∀ b : Byte, 7 < b.toNat →
      exec (.claimLane o (laneByte l) tag [b]) s = .next (s.checkReply .badField 0x10 tag o l)

/-- R106: YIELD_LANE releases a lane that the requester holds, unless the third-party flag is set and it is its own
beneficiary, and is GOOD in every case. R107: BREAK_CLAIM of a HELD lane sets CLAIM_BROKEN for all eight, offers the event
under the old claim, frees the lane, and replies; on a FREE lane it only replies. -/
def Obligations.YieldAndBreakRelease : Prop :=
  ∀ (s : State) (o : Originator) (l : LaneId) (tag third : Byte), s.hears → (s.lane l).sense[o].causes = 0 →
    (1 < third.toNat →
      exec (.yieldLane o (laneByte l) tag [third]) s = .next (s.checkReply .badField 0x11 tag o l)) ∧
    (third.toNat ≤ 1 →
      (∀ c, (s.lane l).claim = some c → c.holder = o → third = 0 ∨ c.beneficiary ≠ o →
        exec (.yieldLane o (laneByte l) tag [third]) s = .next
          ((s.onLane l fun L => { L with claim := none }).goodReply 0x11 tag o l [1])) ∧
      ((∀ c, (s.lane l).claim = some c → c.holder ≠ o ∨ (third = 1 ∧ c.beneficiary = o)) →
        exec (.yieldLane o (laneByte l) tag [third]) s = .next (s.goodReply 0x11 tag o l [0]))) ∧
    ((s.lane l).claim = none →
      exec (.breakClaim o (laneByte l) tag []) s = .next (s.goodReply 0x12 tag o l [0, 0xFF, 0xFF])) ∧
    ∀ c, (s.lane l).claim = some c →
      exec (.breakClaim o (laneByte l) tag []) s = .next
        (((s.offerLane .claimBroken l).onLane l fun L =>
          { L with
            claim := none
            sense := Vector.ofFn fun p => { L.sense[p] with causes := L.sense[p].causes ||| 16 } }).goodReply
          0x12 tag o l [1, originatorByte c.holder, originatorByte c.beneficiary])

/-- R111, R46, R142: the three requests that only report a lane change no state, whatever the claim and the attention. -/
def Obligations.ReportsChangeNothing : Prop :=
  ∀ (s : State) (o : Originator) (l : LaneId) (tag : Byte) (L : LaneState), s.hears → s.lane l = L →
    exec (.laneStatus o (laneByte l) tag []) s = .next (s.pushReply ⟨o, laneByte l, 0x13, tag, .good,
      (match L.claim with
        | none => [0, 0xFF, 0xFF, 0, 0, 0, 0]
        | some c => [1, originatorByte c.holder, originatorByte c.beneficiary] ++ le32 c.time.toNat) ++
      le8 L.link.state.code ++ le16 L.link.epoch.toNat ++ le8 L.link.out.code ++ le8 L.link.inn.code ++
      le16 L.occupancy ++ le8 L.send.queue.length ++ leFlag L.send.halted ++ leFlag L.flowHeld ++
      leFlag s.squeezed ++ le8 L.upstream.drops ++ le32 L.upstream.damaged.toNat ++
      le32 L.upstream.counted.toNat ++ le16 L.link.recovered ++ le8 L.supply.state.code ++
      le8 L.strokes.state.code ++ leFlag L.nest.seated ++ leFlag L.keep⟩) ∧
    exec (.laneIdentity o (laneByte l) tag []) s = .next (s.pushReply ⟨o, laneByte l, 0x15, tag, .good,
      le8 L.link.state.code ++ le16 L.link.epoch.toNat ++
      match L.link.identity with
      | none => [0]
      | some id =>
        [1] ++ le16 id.model.toNat ++ le16 id.agent.toNat ++ le8 id.serial.length ++ id.serial ++
          le8 id.label.length ++ id.label⟩) ∧
    exec (.readWindow o (laneByte l) tag []) s = .next (s.pushReply ⟨o, laneByte l, 0x34, tag, .good,
      le8 L.supply.active.code ++ leFlag L.supply.staged.isSome ++
      match L.supply.result with
      | none => [0]
      | some r =>
        [1, if r.done then 4 else 5] ++ le16 r.length ++ le16 r.figures.samples ++ le32 r.figures.sum ++
          le16 (r.figures.minimum.getD 0xFFFF) ++ le16 (r.figures.maximum.getD 0xFFFF) ++
          le16 (if r.figures.samples = 0 then 0xFFFF
            else (r.figures.sum + r.figures.samples / 2) / r.figures.samples) ++
          le16 (r.figures.capture.getD 0xFFFF) ++ le32 r.endTime.toNat⟩)

/-- R47, R62, R63, R92, R98: SET_LANE_OPTIONS is refused with no field changed for a select bit above 12 or a selected
on/off field above 1; otherwise every selected field is clamped and applied, cap, H and L in that order, then eligibility
(where a pack field changed), flow hold and squeeze are evaluated, and the reply is the thirteen fields. (That the squeeze tests
apply also where fewer than 9 cells are shared is the model's choice, log 31.) -/
def Obligations.SetLaneOptionsClampsInOrder : Prop :=
  ∀ (s : State) (o : Originator) (l : LaneId) (tag : Byte) (body : List Byte) (L : LaneState), s.hears →
    s.passes o l → body.length = 21 → s.lane l = L →
    let on : Nat → Bool := fun i => (u16At body 0).testBit i
    let fits := u16At body 0 < 8192 ∧ (on 3 = true → byteAt body 7 ≤ 1) ∧ (on 9 = true → byteAt body 17 ≤ 1) ∧
      (on 10 = true → byteAt body 18 ≤ 1) ∧ (on 11 = true → byteAt body 19 ≤ 1) ∧
      (on 12 = true → byteAt body 20 ≤ 1)
    let cap := if on 4 then max (max 16 (min (u16At body 8) 1280)) L.occupancy else L.options.cap
    let high := if on 5 then max 9 (min (u16At body 10) cap) else min L.options.high cap
    let low := if on 6 then min (u16At body 12) (high - 9) else min L.options.low (high - 9)
    let n : LaneOptions :=
      { attachLimit := if on 0 then max 500 (min (u16At body 2) 30000) else L.options.attachLimit
        sendTimeout := if on 1 then max 100 (min (u16At body 4) 10000) else L.options.sendTimeout
        attemptLimit := if on 2 then max 1 (min (byteAt body 6) 16) else L.options.attemptLimit
        reportRecovered := if on 3 then byteAt body 7 == 1 else L.options.reportRecovered
        cap := cap, high := high, low := low
        packTimer := if on 7 then min (byteAt body 14) 100 else L.options.packTimer
        packThreshold := if on 8 then min (u16At body 15) 4096 else L.options.packThreshold
        priority := if on 9 then byteAt body 17 == 1 else L.options.priority
        promiscuous := if on 10 then byteAt body 18 == 1 else L.options.promiscuous
        keepDamaged := if on 11 then byteAt body 19 == 1 else L.options.keepDamaged
        long := if on 12 then byteAt body 20 == 1 else L.options.long }
    let ripe := (n.packTimer ≠ L.options.packTimer ∨ n.packThreshold ≠ L.options.packThreshold) ∧
      L.upstream.queue ≠ [] ∧
      (n.packTimer = 0 ∨ (n.packThreshold ≠ 0 ∧ n.packThreshold ≤ queuedBytes L.upstream.queue) ∨
        ∃ p ∈ L.upstream.queue, p.urgent = true)
    (¬ fits →
      exec (.setLaneOptions o (laneByte l) tag body) s = .next (s.checkReply .badField 0x16 tag o l)) ∧
    (fits → ∃ u : Upstream,
      (ripe → u = { L.upstream with eligible := true, packTimer := none }) ∧ (¬ ripe → u = L.upstream) ∧
      exec (.setLaneOptions o (laneByte l) tag body) s = .next
        ((((s.setLane l
          { L with
            options := n, upstream := u
            flowHeld := if high ≤ L.occupancy then true else if L.occupancy ≤ low then false else L.flowHeld
          }).enterSqueeze).leaveSqueeze).goodReply 0x16 tag o l
          (le16 n.attachLimit ++ le16 n.sendTimeout ++ le8 n.attemptLimit ++ leFlag n.reportRecovered ++
            le16 cap ++ le16 high ++ le16 low ++ le8 n.packTimer ++ le16 n.packThreshold ++ leFlag n.priority ++
            leFlag n.promiscuous ++ leFlag n.keepDamaged ++ leFlag n.long)))

/-- R80, R81, R48: LANE_RESET cancels the send in flight and the queued sends, takes the link through a fresh attach where
it is enabled and seated, discards the upstream queue, stops the strokes, cancels the windows, and replies last. The
claim, the options, the supply, the class table, the keep flag, the lamp and every other lane stay. -/
def Obligations.LaneResetCleansOneLane : Prop :=
  ∀ (s : State) (o : Originator) (l : LaneId) (tag : Byte) (L : LaneState), s.hears → s.passes o l →
    s.lane l = L →
    ∃ (t : State) (K : LaneState), exec (.laneReset o (laneByte l) tag []) s = .next t ∧ t.lane l = K ∧
      (∀ k, k ≠ l → t.lane k = s.lane k) ∧
      { t with lanes := s.lanes, ready := s.ready, originators := s.originators, downHeld := s.downHeld
               squeezed := s.squeezed } = s ∧
      t.ready = s.ready ++
        L.sends.map (fun r => (⟨r.sender, laneByte l, 0x20, r.tag, .check, [4, 3, 0xFF, 0xFF]⟩ : Reply)) ++
        [⟨o, laneByte l, 0x17, tag, .good, le8 K.link.state.code ++ le8 L.sends.length⟩] ∧
      t.downHeld = s.downHeld - (L.sends.map SendRecord.cells).sum ∧
      K.link.state = L.reattached ∧
      { K.link with state := L.link.state, inn := L.link.inn } =
        { L.link with out := .idle, clearings := [], clearRetry := none, errorCount := 0, recovered := 0 } ∧
      (L.link.state = .up → K.link.inn = .idle none) ∧ (L.link.state ≠ .up → K.link.inn = L.link.inn) ∧
      K.send = ⟨[], false⟩ ∧
      K.upstream = { L.upstream with queue := [], packTimer := none, eligible := false, drops := 0 } ∧
      K.occupancy = L.occupancy - recordCells L.upstream.queue ∧
      K.flowHeld = (if K.occupancy ≤ L.options.low then false else L.flowHeld) ∧
      K.strokes = L.strokes.stop ∧
      K.supply = { L.supply with active := .idle, staged := none, result := none } ∧
      (∀ p : Originator, p ≠ o → K.sense[p] =
        (L.sends.filter fun r => r.sender = p).foldl
          (fun r _ => r.record .laneReset s.timebase (some L.link.epoch)) L.sense[p]) ∧
      K.sense[o] = { L.sense[o] with held := none, further := 0 } ∧
      { K with link := L.link, send := L.send, upstream := L.upstream, occupancy := L.occupancy
               flowHeld := L.flowHeld, strokes := L.strokes, supply := L.supply, sense := L.sense } = L ∧
      (s.squeezed = false → t.squeezed = false) ∧
      (s.squeezed = true → (t.squeezed = false ↔ 27 ≤ (2048 - t.downCells - 24 * t.reserve) -
        ((List.finRange 24).map fun k => (t.lane k).occupancy - t.reserve).sum)) ∧
      ∃ u : State, (L.link.state = .up → u = s.offerLane .linkDown l) ∧ (L.link.state ≠ .up → u = s) ∧
        (t.squeezed = s.squeezed → t.originators = u.originators) ∧
        (t.squeezed ≠ s.squeezed → t.originators = (u.offerDevice .poolRelief).originators)

/-- R67, R51: SEND_PACKET: the option byte, the link state and the room are tested in that order; an accepted packet takes
its cells and joins the tail of the queue with the lane's epoch, and no reply is built. The refusals are ILLEGAL/BAD_FIELD,
NOT_READY/LINK_NOT_UP with the link state's code, and NOT_READY/DOWN_FULL with the free downstream cells (R114, R115). -/
def Obligations.SendPacketIsQueued : Prop :=
  ∀ (s : State) (o : Originator) (l : LaneId) (tag options : Byte) (data : List Byte), s.hears → s.passes o l →
    data.length ≤ 1024 →
    let cells := (data.length + 16 + 127) / 128
    let i := Instr.sendPacket o (laneByte l) tag (options :: data)
    let refused : Cond → List Byte → Answer := fun c bytes =>
      .next ((s.recordLane c o l).pushReply ⟨o, laneByte l, 0x20, tag, .check, bytes⟩)
    (1 < options.toNat → exec i s = refused .badField [3, 4, 0xFF, 0xFF]) ∧
    (options.toNat ≤ 1 → (s.lane l).link.state ≠ .up →
      exec i s = refused (.linkNotUp (s.lane l).link.state.code) ([2, 1] ++ le16 (s.lane l).link.state.code)) ∧
    (options.toNat ≤ 1 → (s.lane l).link.state = .up →
      (16 ≤ (s.lane l).send.queue.length ∨ s.downCells < s.downHeld + cells →
        exec i s = refused (.downFull (s.downCells - s.downHeld)) ([2, 2] ++ le16 (s.downCells - s.downHeld))) ∧
      ((s.lane l).send.queue.length < 16 → s.downHeld + cells ≤ s.downCells →
        exec i s = .next
          ({ s with downHeld := s.downHeld + cells }.onLane l fun L =>
            { L with send := { L.send with
                queue := L.send.queue ++ [(⟨o, tag, options == 1, data, L.link.epoch⟩ : SendRecord)] } })))

/-- R76, R77, R78: RESUME_SEND clears the halt and says what it was; FLUSH_LANE cancels the queued sends and clears the
halt (scope 1), discards the upstream queue (scope 2), or both (scope 3), leaves the send in flight, and replies after the
sends; any other scope is refused. -/
def Obligations.ResumeAndFlush : Prop :=
  ∀ (s : State) (o : Originator) (l : LaneId) (tag : Byte) (L : LaneState), s.hears → s.passes o l →
    s.lane l = L →
    let down : State :=
      (s.onLane l fun K => { K with send := ⟨[], false⟩ }).cancelSends .flushed l L.send.queue
    exec (.resumeSend o (laneByte l) tag []) s = .next
      ((s.onLane l fun K => { K with send := { K.send with halted := false } }).goodReply 0x21 tag o l
        (leFlag L.send.halted)) ∧
    exec (.flushLane o (laneByte l) tag [1]) s = .next
      (down.goodReply 0x22 tag o l (le8 L.send.queue.length ++ [0, 0, 0, 0, 0])) ∧
    exec (.flushLane o (laneByte l) tag [2]) s = .next
      ((s.upstreamDiscarded l).goodReply 0x22 tag o l
        ([0] ++ le16 L.upstream.queue.length ++ le16 (recordCells L.upstream.queue) ++ leFlag L.send.halted)) ∧
    exec (.flushLane o (laneByte l) tag [3]) s = .next
      ((down.upstreamDiscarded l).goodReply 0x22 tag o l
        (le8 L.send.queue.length ++ le16 L.upstream.queue.length ++ le16 (recordCells L.upstream.queue) ++ [0])) ∧
    ∀ scope : Byte, scope = 0 ∨ 3 < scope.toNat →
      exec (.flushLane o (laneByte l) tag [scope]) s = .next (s.checkReply .badField 0x22 tag o l)

/-- R35, R52, R70, R72, R77, R80: sends that are cancelled are answered in order, each to its own sender with the condition
of its cause, which its sender's record for the lane takes; their cells are released; and nothing else changes. R73, R74: a
refused send halts the lane, offers SEND_HALTED, and is answered first, with the number of records cancelled with it; then the
rest of its chain is cancelled from the head of the queue, each with its position in reply and sender's record, up to the first
record whose CHAIN is clear, which is one of them. -/
def Obligations.CancelledSendsAreAnswered : Prop :=
  (∀ (s : State) (c : Cond) (l : LaneId) (rs : List SendRecord),
    (∃ t : State, s.cancelSends c l rs = t ∧
      { t with lanes := s.lanes, ready := s.ready, downHeld := s.downHeld } = s ∧
      t.ready = s.ready ++ rs.map (fun r => (⟨r.sender, laneByte l, 0x20, r.tag, .check, shortSense c⟩ : Reply)) ∧
      t.downHeld = s.downHeld - (rs.map SendRecord.cells).sum ∧
      (∀ k, k ≠ l → t.lane k = s.lane k) ∧ { t.lane l with sense := (s.lane l).sense } = s.lane l ∧
      ∀ p : Originator, (t.lane l).sense[p] =
        (rs.filter fun r => r.sender = p).foldl
          (fun r _ => r.record c s.timebase (some (s.lane l).link.epoch)) (s.lane l).sense[p]) ∧
    ∃ t : State, s.cancelChain l 1 rs = t ∧
      { t with lanes := s.lanes, ready := s.ready, downHeld := s.downHeld } = s ∧
      t.ready = s.ready ++ rs.mapIdx
        (fun i r => (⟨r.sender, laneByte l, 0x20, r.tag, .check, [4, 2] ++ le16 (i + 1)⟩ : Reply)) ∧
      t.downHeld = s.downHeld - (rs.map SendRecord.cells).sum ∧
      (∀ k, k ≠ l → t.lane k = s.lane k) ∧ { t.lane l with sense := (s.lane l).sense } = s.lane l ∧
      ∀ p : Originator, (t.lane l).sense[p] =
        (rs.zipIdx.filter fun x => x.1.sender = p).foldl
          (fun r x => r.record (.chainBroken (x.2 + 1)) s.timebase (some (s.lane l).link.epoch)) (s.lane l).sense[p]) ∧
  ∀ (s : State) (l : LaneId) (f : Flight) (cond : Nat → Cond) (chain rest : List SendRecord),
    (s.lane l).send.queue = chain ++ rest →
    ((f.record.chain = false ∧ chain = []) ∨
      (f.record.chain = true ∧
        ((rest = [] ∧ ∀ r ∈ chain, r.chain = true) ∨
          ∃ linked last, chain = linked ++ [last] ∧ (∀ r ∈ linked, r.chain = true) ∧ last.chain = false))) →
    s.sendRefused cond f l =
      ((((s.offerLane .sendHalted l).onLane l fun L =>
          { L with link := { L.link with out := .idle }, send := ⟨rest, true⟩ }).releaseDown f.record.cells).checkReply
        (cond chain.length) 0x20 f.record.tag f.record.sender l).cancelChain l 1 chain

/-- R44, R45, R28, R29: LINK_RESET by link state, with leaving UP first where the link is UP; SET_LINK off and on. Each
replies with the resulting state. -/
def Obligations.LinkRequestsByState : Prop :=
  ∀ (s : State) (o : Originator) (l : LaneId) (tag : Byte), s.hears → s.passes o l →
    let reset := exec (.linkReset o (laneByte l) tag []) s
    let link : Byte → Answer := fun b => exec (.setLink o (laneByte l) tag [b]) s
    let state := (s.lane l).link.state
    let attached : State → State := fun t => t.linkEnters l (s.lane l).reattached
    (state = .disabled → reset = .next (s.checkReply .linkDisabled 0x23 tag o l)) ∧
    (state = .vacant → reset = .next (s.checkReply (.nestEmpty none) 0x23 tag o l)) ∧
    (state ≠ .disabled → state ≠ .vacant → state ≠ .up →
      reset = .next ((attached s).goodReply 0x23 tag o l (le8 (s.lane l).reattached.code))) ∧
    (state = .up →
      reset = .next ((attached (s.leaveUp l)).goodReply 0x23 tag o l (le8 (s.lane l).reattached.code))) ∧
    (∀ b : Byte, 1 < b.toNat → link b = .next (s.checkReply .badField 0x24 tag o l)) ∧
    (state ≠ .up → link 0 = .next ((s.linkEnters l .disabled).goodReply 0x24 tag o l [0])) ∧
    (state = .up → link 0 = .next (((s.leaveUp l).linkEnters l .disabled).goodReply 0x24 tag o l [0])) ∧
    (state = .disabled → (s.lane l).nest.seated = false →
      link 1 = .next ((s.linkEnters l .vacant).goodReply 0x24 tag o l [1])) ∧
    (state = .disabled → (s.lane l).nest.seated = true →
      link 1 = .next ((s.linkEnters l (s.lane l).connected).goodReply 0x24 tag o l
        (le8 (s.lane l).connected.code))) ∧
    (state ≠ .disabled → link 1 = .next (s.goodReply 0x24 tag o l (le8 state.code)))

/-- R130: SUPPLY by action and supply state; the voltage clamped and rounded down; a refused request changes nothing, a
request carried out stores the selection; an entry to ON from OFF zeroes the counts and fires SUPPLY_ON; a change of source
while ON zeroes the counts. (The flag blankPassed, cleared with the counts, is the model's, log 30.) -/
def Obligations.SupplyByActionAndState : Prop :=
  ∀ (s : State) (o : Originator) (l : LaneId) (tag action source v0 v1 : Byte) (u : Supply), s.hears →
    s.passes o l → (s.lane l).supply = u →
    let i := Instr.supply o (laneByte l) tag [action, source, v0, v1]
    let seated := (s.lane l).nest.seated
    let mv := max 3400 (min (v0.toNat + 256 * v1.toNat) 4400) / 10 * 10
    let src : Source := if source = 0 then .bus else .battery
    let gives : Supply → Prop := fun w =>
      exec i s = .next ((s.onLane l fun L => { L with supply := { w with source := src, millivolts := mv } }).goodReply
        0x30 tag o l (le8 w.state.code ++ [source] ++ le16 mv))
    (2 < action.toNat ∨ 1 < source.toNat → exec i s = .next (s.checkReply .badField 0x30 tag o l)) ∧
    (source.toNat ≤ 1 →
      (action = 1 → seated = false → u.state ≠ .on →
        exec i s = .next (s.checkReply (.nestEmpty none) 0x30 tag o l)) ∧
      (action = 1 → seated = true → u.state = .tripped →
        exec i s = .next (s.checkReply .tripLatched 0x30 tag o l)) ∧
      (action = 1 → seated = true → u.state = .off →
        gives { u with
          state := .on, blankCount := 0, blankPassed := false, tripRun := 0
          active := match u.active with
            | .armed p => if p.trigger = .supplyOn then p.start else .armed p
            | w => w }) ∧
      (action = 1 ∨ action = 2 → u.state = .on →
        (u.source = src → gives u) ∧
        (u.source ≠ src → gives { u with blankCount := 0, blankPassed := false, tripRun := 0 })) ∧
      (action = 0 → u.state = .on →
        gives { u with state := .off, blankCount := 0, blankPassed := false, tripRun := 0 }) ∧
      (action = 0 → u.state ≠ .on → gives u) ∧
      (action = 2 → u.state ≠ .on → gives { u with state := .off }))

/-- R135, R137, R141: SET_TRIP clamps and stores the trip setting, zeroes the run and leaves the blanking count; a supply that
is ON past its blanking stays past it (the model's reading, log 30). ARM_WINDOW refuses an unknown
trigger or edge, and otherwise places the window as active, staged, or nowhere by the two places; CANCEL_WINDOW empties
both and keeps the last result. -/
def Obligations.TripAndWindowRequests : Prop :=
  ∀ (s : State) (o : Originator) (l : LaneId) (tag : Byte) (u : Supply), s.hears → s.passes o l →
    (s.lane l).supply = u →
    let setting : Supply → State := fun w => s.onLane l fun L => { L with supply := w }
    (∀ t0 t1 k b : Byte,
      let t := min (t0.toNat + 256 * t1.toNat) 4095
      let n := max 1 (min k.toNat 16)
      exec (.setTrip o (laneByte l) tag [t0, t1, k, b]) s = .next
        ((setting { u with
            tripLevel := t, tripCount := n, blanking := b.toNat, tripRun := 0
            blankPassed := decide (u.state = .on ∧ (u.blankPassed = true ∨ u.blanking ≤ u.blankCount))
          }).goodReply 0x31 tag o l (le16 t ++ le8 n ++ [b]))) ∧
    exec (.cancelWindow o (laneByte l) tag []) s = .next
      ((setting { u with active := .idle, staged := none }).goodReply 0x33 tag o l
        (le8 u.active.code ++ leFlag u.staged.isSome)) ∧
    ∀ trig k d0 d1 n0 n1 c0 c1 edge : Byte,
      let i := Instr.armWindow o (laneByte l) tag [trig, k, d0, d1, n0, n1, c0, c1, edge]
      (3 < trig.toNat ∨ 1 < edge.toNat → exec i s = .next (s.checkReply .badField 0x32 tag o l)) ∧
      ∀ trigger : Trigger, trigger.code = trig.toNat → edge.toNat ≤ 1 →
        let p : WindowParams :=
          { trigger := trigger, step := if trigger = .strokeStep then max 1 (min k.toNat 16) else 0
            delay := d0.toNat + 256 * d1.toNat, length := max 1 (min (n0.toNat + 256 * n1.toNat) 4096)
            level := min (c0.toNat + 256 * c1.toNat) 4095, rise := edge == 0 }
        let applied := [trig] ++ le8 p.step ++ [d0, d1] ++ le16 p.length ++ le16 p.level ++ [edge]
        (u.active.resting →
          exec i s = .next ((setting { u with active := .armed p }).goodReply 0x32 tag o l ([0] ++ applied))) ∧
        (¬ u.active.resting → u.staged = none →
          exec i s = .next ((setting { u with staged := some p }).goodReply 0x32 tag o l ([1] ++ applied))) ∧
        (¬ u.active.resting → u.staged ≠ none →
          exec i s = .next (s.checkReply .windowStaged 0x32 tag o l))

/-- R147, R148: QUEUE_STROKES refuses an entry with a bit that must be 0, and a list that does not fit, with no step
appended; otherwise it appends every step, clamped, and arms the low mark where the count comes above it. SET_STROKE_TIMING
clamps and stores the release gap and the low mark and sets the armed flag by the count. -/
def Obligations.StrokeListRequests : Prop :=
  ∀ (s : State) (o : Originator) (l : LaneId) (tag : Byte) (k : Strokes), s.hears → s.passes o l →
    (s.lane l).strokes = k →
    (∀ entries : List (Byte × Byte × Byte × Byte), entries ≠ [] → entries.length ≤ 16 →
      let body := (entries.map fun e => [e.1, e.2.1, e.2.2.1, e.2.2.2]).flatten
      let steps : List Step := entries.map fun e =>
        ⟨e.1.getLsbD 0, e.1.getLsbD 1, max 1 (min (e.2.1.toNat + 256 * e.2.2.1.toNat) 10000), e.2.2.2.getLsbD 0⟩
      ((∃ e ∈ entries, 3 < e.1.toNat ∨ 1 < e.2.2.2.toNat) →
        exec (.queueStrokes o (laneByte l) tag body) s = .next (s.checkReply .badField 0x38 tag o l)) ∧
      ((∀ e ∈ entries, e.1.toNat ≤ 3 ∧ e.2.2.2.toNat ≤ 1) →
        (16 < k.queue.length + steps.length →
          exec (.queueStrokes o (laneByte l) tag body) s = .next
            (s.checkReply (.strokeQueueFull (16 - k.queue.length)) 0x38 tag o l)) ∧
        (k.queue.length + steps.length ≤ 16 →
          exec (.queueStrokes o (laneByte l) tag body) s = .next
            ((s.onLane l fun L => { L with strokes := { k with
                queue := k.queue ++ steps
                lowArmed := if k.lowMark < k.queue.length + steps.length then true else k.lowArmed } }).goodReply
              0x38 tag o l (le8 (k.queue.length + steps.length) ++ (steps.map fun st =>
                le8 (st.keyA.toNat + 2 * st.keyB.toNat) ++ le16 st.duration ++ leFlag st.tie).flatten))))) ∧
    ∀ gap mark : Byte,
      let g := max 10 (min gap.toNat 200)
      let m := min mark.toNat 15
      exec (.setStrokeTiming o (laneByte l) tag [gap, mark]) s = .next
        ((s.onLane l fun L => { L with strokes :=
          { k with gap := g, lowMark := m, lowArmed := decide (m < k.queue.length) } }).goodReply 0x3A tag o l
          (le8 g ++ le8 m))

/-- R154: STOP_STROKES clears the queue in every state; an IDLE lane is answered at once; a RUNNING one has its keys
released and retracts for 15 ms; the reply of a RUNNING or STOPPING lane stays RESERVED until the retract ends, when the
lane becomes IDLE and the waiting replies become READY in order, each clearing its requester's condition. -/
def Obligations.StopStrokesWaitsForRetract : Prop :=
  (∀ (s : State) (o : Originator) (l : LaneId) (tag : Byte) (k : Strokes), s.hears → s.passes o l →
    (s.lane l).strokes = k →
    let waits : StopWait := ⟨o, tag, k.state.code, k.queue.length⟩
    (k.state = .idle → exec (.stopStrokes o (laneByte l) tag []) s = .next
      ((s.onLane l fun L => { L with strokes := { k with queue := [] } }).goodReply 0x39 tag o l
        ([0] ++ le8 k.queue.length))) ∧
    (k.state.code = 1 → exec (.stopStrokes o (laneByte l) tag []) s = .next
      (s.onLane l fun L => { L with strokes := { k with
        queue := [], state := .stopping 15000, keyA := false, keyB := false, waiting := k.waiting ++ [waits] } })) ∧
    (∀ left, k.state = .stopping left → exec (.stopStrokes o (laneByte l) tag []) s = .next
      (s.onLane l fun L => { L with strokes := { k with queue := [], waiting := k.waiting ++ [waits] } }))) ∧
  ∀ (s : State) (l : LaneId) (left : Nat), (s.lane l).strokes.state = .stopping left →
    ∃ t : State, exec (.retractEnd l) s = .next t ∧
      t.ready = s.ready ++ (s.lane l).strokes.waiting.map
        (fun w => (⟨w.originator, laneByte l, 0x39, w.tag, .good, le8 w.former ++ le8 w.cleared⟩ : Reply)) ∧
      { t with ready := s.ready, lanes := (s.advance left).lanes } = s.advance left ∧
      (∀ k, k ≠ l → t.lane k = (s.advance left).lane k) ∧
      (t.lane l).strokes = { (s.lane l).strokes with state := .idle, waiting := [] } ∧
      { t.lane l with strokes := ((s.advance left).lane l).strokes, sense := (s.lane l).sense } =
        (s.advance left).lane l ∧
      ∀ p : Originator, (t.lane l).sense[p] =
        if ∃ w ∈ (s.lane l).strokes.waiting, w.originator = p then
          { (s.lane l).sense[p] with held := none, further := 0 }
        else (s.lane l).sense[p]

/-- R163, R164, R161: SET_LAMP replaces the three settings, or is refused for a source above 9 or a flags bit above 1;
KEEP_PHONE sets the flag where the nest is seated and clears it anywhere; and the lamp is lit by its source, its blink
phase and its invert flag, and dark in hard reset. -/
def Obligations.LampAndKeep : Prop :=
  (∀ (s : State) (o : Originator) (l : LaneId) (tag : Byte), s.hears → s.passes o l →
    (∀ source flags : Byte,
      (9 < source.toNat ∨ 3 < flags.toNat →
        exec (.setLamp o (laneByte l) tag [source, flags]) s = .next (s.checkReply .badField 0x40 tag o l)) ∧
      ∀ src : LampSource, src.code = source.toNat → flags.toNat ≤ 3 →
        exec (.setLamp o (laneByte l) tag [source, flags]) s = .next
          ((s.onLane l fun L => { L with lamp := ⟨src, flags.getLsbD 0, flags.getLsbD 1⟩ }).goodReply 0x40 tag o l
            [source, flags])) ∧
    ∀ keep : Byte,
      (1 < keep.toNat →
        exec (.keepPhone o (laneByte l) tag [keep]) s = .next (s.checkReply .badField 0x41 tag o l)) ∧
      (keep = 1 → (s.lane l).nest.seated = false →
        exec (.keepPhone o (laneByte l) tag [keep]) s = .next (s.checkReply (.nestEmpty none) 0x41 tag o l)) ∧
      (keep = 0 ∨ (keep = 1 ∧ (s.lane l).nest.seated = true) →
        exec (.keepPhone o (laneByte l) tag [keep]) s = .next
          ((s.onLane l fun L => { L with keep := keep == 1 }).goodReply 0x41 tag o l
            (leFlag (s.lane l).keep ++ [keep])))) ∧
  ∀ (s : State) (l : LaneId), s.lampLit l = true ↔ s.hardReset = false ∧
    ((s.lane l).lamp.invert = true ↔ ¬ ((s.lane l).showsSource ∧
      ((s.lane l).lamp.blink = true → s.timebase.toNat / 250000 % 2 = 0)))

/-! ### The line, the nest input and the timers of a lane -/

/-- R25, R157: a raw line or a raw nest input that comes to differ from what is established starts its qualification
afresh; one that agrees again stops it; while it goes on differing the qualification runs on. None runs in hard reset:
the model's reading, log 8. R91, R92, R162: an expired pack timer makes a lane with packets eligible; an expired activity
timer is idle. R20: `advance` lets time pass: the timebase counts the µs modulo 2^32, every running timer loses them, one whose
time is over stays at 0 until its expiry (log 2), and nothing else changes. -/
def Obligations.InputsQualifyAndTimersExpire : Prop :=
  (∀ (s : State) (l : LaneId) (b : Bool),
    exec (.lineStateChange l b) s = .next (s.onLane l fun L =>
      { L with link := { L.link with
          line := b
          connectQual :=
            if s.hardReset = true ∨ L.link.connectPresent = true ∨ b = false then none
            else if L.link.line = true then L.link.connectQual else some 100000 } }) ∧
    exec (.nestInputChange l b) s = .next (s.onLane l fun L =>
      { L with nest := { L.nest with
          raw := b
          qual :=
            if s.hardReset = true ∨ b = L.nest.seated then none
            else if b = L.nest.raw then L.nest.qual else some 20000 } })) ∧
  (∀ (s : State) (l : LaneId) (left : Nat),
    ((s.lane l).upstream.packTimer = some left →
      exec (.packTimerExpiry l) s = .next ((s.advance left).onLane l fun L =>
        { L with upstream := { L.upstream with
            packTimer := none
            eligible := if L.upstream.queue = [] then L.upstream.eligible else true } })) ∧
    ((s.lane l).activity = some left →
      exec (.activityTimerExpiry l) s = .next ((s.advance left).onLane l fun L => { L with activity := none }))) ∧
  ∀ (s : State) (d : Nat), ∃ t : State, s.advance d = t ∧
    t.timebase.toNat = (s.timebase.toNat + d) % 4294967296 ∧
    { t with timebase := s.timebase, originators := s.originators, lanes := s.lanes } = s ∧
    (∀ o : Originator, t.orig o = { s.orig o with pacing := (s.orig o).pacing.map fun left => left - d }) ∧
    ∀ l : LaneId, (s.lane l).aged d (t.lane l)

/-- R25, R27, R28: a connect detection sets connect present and takes a WAITING link to ATTACHING; a disconnect detection
clears it and takes an ATTACHING, UP or FAILED link to WAITING, from UP after the leaving-UP effects; every other state
stays. That a disconnect detection finds the raw line without a device is the model's reading, log 18. -/
def Obligations.ConnectAndDisconnect : Prop :=
  (∀ (s : State) (l : LaneId) (left : Nat), (s.lane l).link.connectQual = some left →
    let present : State := (s.advance left).onLane l fun L =>
      { L with link := { L.link with connectPresent := true, connectQual := none } }
    ((s.lane l).link.state = .waiting →
      exec (.connectDetection l) s = .next
        (present.linkEnters l (.attaching ⟨(s.lane l).options.attachLimit * 1000, .resetting 50000⟩))) ∧
    ((s.lane l).link.state ≠ .waiting → exec (.connectDetection l) s = .next present)) ∧
  ∀ (s : State) (l : LaneId), (s.lane l).link.connectPresent = true →
    let gone : State := s.onLane l fun L =>
      { L with link := { L.link with connectPresent := false, line := false, connectQual := none } }
    ((s.lane l).link.state = .up →
      exec (.disconnectDetection l) s = .next ((gone.leaveUp l).linkEnters l .waiting)) ∧
    ((s.lane l).link.state.code = 3 ∨ (s.lane l).link.state = .failed →
      exec (.disconnectDetection l) s = .next (gone.linkEnters l .waiting)) ∧
    ((s.lane l).link.state.code ≤ 2 → exec (.disconnectDetection l) s = .next gone)

/-! ### The attach -/

/-- R29: the phases RESETTING and ENUMERATING. The reset settles the speed; a transfer that is NAKed is repeated at once
and one that meets a transport error after 1 ms; a STALL, a descriptor that cannot be parsed, or configurations that all
lack the diagnostic function fail the attach with NO_FUNCTION; address 1 is assigned; the configuration of the first interface
that is the diagnostic function, with both bulk endpoints at the packet size of the speed, is selected, its two endpoints
become the lane's OUT and IN endpoints, and IDENTIFYING begins. The steps of the enumeration are the model's reading, log 16;
address 0 after the port reset, endpoint numbers, configuration values and the toggles at the selection are USB's, logs 23
and 29. -/
def Obligations.AttachEnumerates : Prop :=
  ∀ (s : State) (l : LaneId) (a : Nat),
    let linked : (Link → Link) → State := fun f => s.onLane l fun L => { L with link := f L.link }
    let goes : AttachPhase → State := fun p => linked fun n => { n with state := .attaching ⟨a, p⟩ }
    let p := if (s.lane l).link.highSpeed = true then 512 else 64
    (∀ left b, (s.lane l).link.state = .attaching ⟨a, .resetting left⟩ →
      exec (.portResetEnd l b) s = .next ((s.advance left).onLane l fun L =>
        { L with link := { L.link with
            highSpeed := b, address := 0, function := none
            state := .attaching ⟨a - left, .enumerating .device none⟩ } })) ∧
    (∀ stage, (s.lane l).link.state = .attaching ⟨a, .enumerating stage none⟩ →
      let done : EnumResult → Answer := fun r => exec (.enumerationTransferDone l r) s
      done .nak = .next s ∧
      done .transportError = .next (goes (.enumerating stage (some 1000))) ∧
      done .stall = .next (s.attachFails 2 l) ∧
      done .unparsable = .next (s.attachFails 2 l) ∧
      (∀ n, stage = .device → done (.device n) = .next (goes (.enumerating (.address n) none))) ∧
      (∀ n, stage = .address n →
        (n = 0 → done .addressed = .next ((linked fun k => { k with address := 1 }).attachFails 2 l)) ∧
        (0 < n → done .addressed = .next (linked fun k =>
          { k with address := 1, state := .attaching ⟨a, .enumerating (.configuration 0 n) none⟩ }))) ∧
      (∀ k n value interfaces, stage = .configuration k n →
        let isFunction : Interface → DiagFunction → Prop := fun i d =>
          i.cls = 0xFF ∧ i.subclass = 0x4D ∧ i.protocol = 0x02 ∧ i.outs = [⟨d.outEndpoint, p⟩] ∧
            i.ins = [⟨d.inEndpoint, p⟩] ∧ d.configuration = value
        (∀ before i after d, interfaces = before ++ i :: after → (∀ j ∈ before, ∀ e, ¬ isFunction j e) →
          isFunction i d → done (.configuration value interfaces) = .next (goes (.enumerating (.select d) none))) ∧
        ((∀ j ∈ interfaces, ∀ e, ¬ isFunction j e) →
          (k + 1 < n →
            done (.configuration value interfaces) = .next (goes (.enumerating (.configuration (k + 1) n) none))) ∧
          (n ≤ k + 1 → done (.configuration value interfaces) = .next (s.attachFails 2 l)))) ∧
      ∀ d, stage = .select d → done .selected = .next (linked fun k =>
        { k with
          function := some d, outToggle := false, inToggle := false
          state := .attaching ⟨a, .identifying .request none⟩ })) ∧
    (∀ stage left, (s.lane l).link.state = .attaching ⟨a, .enumerating stage (some left)⟩ →
      exec (.attachRetryExpiry l) s = .next ((s.advance left).onLane l fun L =>
        { L with link := { L.link with state := .attaching ⟨a - left, .enumerating stage none⟩ } })) ∧
    ∀ stage left, (s.lane l).link.state = .attaching ⟨a, .identifying stage (some left)⟩ →
      exec (.attachRetryExpiry l) s = .next ((s.advance left).onLane l fun L =>
        { L with link := { L.link with state := .attaching ⟨a - left, .identifying (stage.pass left) none⟩ } })

/-- R30, R31, R36, R42: the identity exchange. The request is the one-byte packet 0xF0 on the lane's OUT endpoint; it is
repeated on a NAK at once and on a transport error after 1 ms; the
read keeps the bytes read and waits 125 µs after a transport error or a NAK without data; a repeated data packet, known by its
data toggle (log 23), adds nothing; a STALL of either fails the attach with REFUSED. A packet ends with a data packet shorter than the packet size, or at 2048 bytes. One whose first byte
is not 0xF1 is discarded; a valid answer ends the attach with success; an invalid one fails it with INVALID_IDENTITY. A
partial packet whose time runs out is discarded. (The length judged is the number of bytes that the phone sent: log 28. The
timer takes the send timeout in force at the last accepted data packet, runs on in the wait after a transport error and may
expire in it: log 13.) -/
def Obligations.IdentityExchange : Prop :=
  ∀ (s : State) (l : LaneId) (a : Nat),
    let goes : IdentStage → Timer → State := fun stage wait =>
      s.onLane l fun L => { L with link := { L.link with state := .attaching ⟨a, .identifying stage wait⟩ } }
    let size := if (s.lane l).link.highSpeed = true then 512 else 64
    let awaited := (s.lane l).link.inToggle
    let taken : State := s.onLane l fun L => { L with link := { L.link with inToggle := !L.link.inToggle } }
    let done : IdentityResult → Answer := fun r => exec (.identityTransactionDone l r) s
    ((s.lane l).link.state = .attaching ⟨a, .identifying .request none⟩ →
      (∀ d, (s.lane l).link.function = some d → (s.lane l).link.out = .idle → (s.lane l).link.outTransaction =
        some ⟨(s.lane l).link.address, d.outEndpoint, (s.lane l).link.outToggle, [0xF0]⟩) ∧
      done (.request .accepted) = .next (s.onLane l fun L => { L with link := { L.link with
        outToggle := !L.link.outToggle, state := .attaching ⟨a, .identifying (.reading Poll.fresh) none⟩ } }) ∧
      done (.request .nak) = .next s ∧
      done (.request .transportError) = .next (goes .request (some 1000)) ∧
      done (.request .stall) = .next (s.attachFails 4 l)) ∧
    (∀ p : Poll, (s.lane l).link.state = .attaching ⟨a, .identifying (.reading p) none⟩ →
      p.bytes.length = min p.count 1024 →
      (p.count = 0 → done (.read .nak) = .next (goes (.reading p) (some 125))) ∧
      (0 < p.count → done (.read .nak) = .next s) ∧
      done (.read .transportError) = .next (goes (.reading p) (some 125)) ∧
      done (.read .stall) = .next (s.attachFails 4 l) ∧
      ∀ data : List Byte,
        let kept := (p.bytes ++ data).take 1024
        let count := p.count + data.length
        let ends := data.length < size ∨ (data.length = size ∧ 2048 ≤ count)
        let answers : Identity → Prop := fun id =>
          kept = [0xF1] ++ le16 id.model.toNat ++ le16 id.agent.toNat ++ le8 id.serial.length ++ id.serial ++
              le8 id.label.length ++ id.label ∧
            1 ≤ id.serial.length ∧ id.serial.length ≤ 32 ∧ id.label.length ≤ 48 ∧ count = kept.length
        let reads : IdentStage → State := fun stage => s.onLane l fun L => { L with link := { L.link with
          inToggle := !L.link.inToggle, state := .attaching ⟨a, .identifying stage none⟩ } }
        (∀ toggle, size < data.length → done (.read (.data toggle data)) = .next (goes (.reading p) (some 125))) ∧
        (data.length ≤ size → done (.read (.data (!awaited) data)) = .next s) ∧
        (data.length = size → count < 2048 → done (.read (.data awaited data)) = .next
          (reads (.reading ⟨kept, count, some ((s.lane l).options.sendTimeout * 1000)⟩))) ∧
        (ends → kept.head? ≠ some 0xF1 → done (.read (.data awaited data)) = .next (reads (.reading Poll.fresh))) ∧
        (∀ id, ends → answers id → done (.read (.data awaited data)) = .next (taken.attachSucceeds id l)) ∧
        (ends → kept.head? = some 0xF1 → (∀ id, ¬ answers id) →
          done (.read (.data awaited data)) = .next (taken.attachFails 3 l))) ∧
    ∀ bytes count left wait,
      (s.lane l).link.state = .attaching ⟨a, .identifying (.reading ⟨bytes, count, some left⟩) wait⟩ →
      exec (.identityReadTimeout l) s = .next ((s.advance left).onLane l fun L =>
        { L with link := { L.link with
            state := .attaching ⟨a - left, .identifying (.reading Poll.fresh) (wait.map fun w => w - left)⟩ } })

/-- R32, R33: an attach that succeeds enters UP with the epoch one higher and the identity stored, sets PHONE_REATTACHED for
all eight, offers LINK_UP, restarts the collector's sequence and fires a LINK_UP window; one that fails enters FAILED,
offers ATTACH_FAILED and records its reason for the beneficiary. The attach timer fails it with LIMIT. -/
def Obligations.AttachEnds : Prop :=
  ∀ (s : State) (l : LaneId),
    (∀ id : Identity, s.attachSucceeds id l =
      (s.offerLane .linkUp l).onLane l fun L =>
        { L with
          link := { L.link with state := .up, epoch := L.link.epoch + 1, identity := some id }
          sense := Vector.ofFn fun o => { L.sense[o] with causes := L.sense[o].causes ||| 8 }
          upstream := { L.upstream with seq := 0, firstPending := true }
          supply := { L.supply with
            active := match L.supply.active with
              | .armed p => if p.trigger = .linkUp then p.start else .armed p
              | w => w } }) ∧
    (∀ reason : Nat,
      let failed : State := (s.offerLane .attachFailed l).onLane l fun L => { L with link := { L.link with state := .failed } }
      ((s.lane l).claim = none → s.attachFails reason l = failed) ∧
      ∀ c, (s.lane l).claim = some c → s.attachFails reason l = failed.recordLane (.attachFailed reason) c.beneficiary l) ∧
    ∀ a : Attach, (s.lane l).link.state = .attaching a →
      exec (.attachTimerExpiry l) s = .next ((s.advance a.left).attachFails 1 l)

/-- R35, R37: leaving UP answers the send in flight and then the queued sends LINK_LOST, each to its own sender, releases
their cells, idles both engines, drops the clearings and the error count, and offers LINK_DOWN; a link fault records
TRANSPORT_ERRORS for the beneficiary, leaves UP and enters ATTACHING. Everything else stays. -/
def Obligations.LeavingUpAnswersEverySend : Prop :=
  ∀ (s : State) (l : LaneId) (L : LaneState), s.lane l = L →
    (∃ (t : State) (K : LaneState), s.leaveUp l = t ∧ t.lane l = K ∧ (∀ k, k ≠ l → t.lane k = s.lane k) ∧
      { t with lanes := s.lanes, ready := s.ready, downHeld := s.downHeld, originators := s.originators } = s ∧
      t.ready = s.ready ++
        L.sends.map (fun r => (⟨r.sender, laneByte l, 0x20, r.tag, .check, [7, 1, 0xFF, 0xFF]⟩ : Reply)) ∧
      t.downHeld = s.downHeld - (L.sends.map SendRecord.cells).sum ∧
      t.originators = (s.offerLane .linkDown l).originators ∧
      { K with sense := L.sense } =
        { L with
          link := { L.link with out := .idle, inn := .idle none, clearings := [], clearRetry := none, errorCount := 0 }
          send := { L.send with queue := [] } } ∧
      ∀ p : Originator, K.sense[p] =
        (L.sends.filter fun r => r.sender = p).foldl
          (fun r _ => r.record .linkLost s.timebase (some L.link.epoch)) L.sense[p]) ∧
    ∀ engine : Nat,
      let attaching : LinkState := .attaching ⟨L.options.attachLimit * 1000, .resetting 50000⟩
      (L.claim = none → s.linkFault engine l = (s.leaveUp l).linkEnters l attaching) ∧
      ∀ c, L.claim = some c →
        s.linkFault engine l =
          ((s.recordLane (.transportErrors engine) c.beneficiary l).leaveUp l).linkEnters l attaching

/-! ### The OUT engine -/

/-- R38, R39, R69: an OUT engine that is IDLE, on a link that is UP, a lane that is not halted and an OUT endpoint whose
clearing is neither under way nor waiting (log 15), takes, when its start is commanded (log 19), the head record as attempt 1 with the send timeout in force; an attempt whose timer expires goes to
RETRY_WAIT for 1 ms below the attempt limit, and at it the send is refused SEND_TIMEOUT; the next attempt keeps the data
packets that the phone has accepted. -/
def Obligations.SendAttempts : Prop :=
  ∀ (s : State) (l : LaneId) (L : LaneState), s.lane l = L →
    (∀ r rest, L.send.queue = r :: rest →
      (L.link.state = .up → L.link.out = .idle → L.send.halted = false → .out ∉ L.link.clearings →
        exec (.sendStart l) s = .next (s.setLane l
          { L with
            link := { L.link with out := .sending ⟨r, 1, 0, L.options.sendTimeout⟩ (L.options.sendTimeout * 1000) }
            send := { L.send with queue := rest } })) ∧
      (L.link.state ≠ .up ∨ L.link.out ≠ .idle ∨ L.send.halted = true ∨ .out ∈ L.link.clearings →
        exec (.sendStart l) s = .next s)) ∧
    (∀ f left, L.link.out = .sending f left →
      (f.attempt < L.options.attemptLimit →
        exec (.sendTimerExpiry l) s = .next ((s.advance left).onLane l fun K =>
          { K with link := { K.link with out := .retryWait f 1000 } })) ∧
      (L.options.attemptLimit ≤ f.attempt →
        exec (.sendTimerExpiry l) s = .next ((s.advance left).sendRefused .sendTimeout f l))) ∧
    ∀ f left, L.link.out = .retryWait f left →
      exec (.retryWaitEnd l) s = .next ((s.advance left).onLane l fun K =>
        { K with link := { K.link with
            out := .sending { f with attempt := f.attempt + 1, timeout := L.options.sendTimeout }
              (L.options.sendTimeout * 1000) } })

/-- R29, R36 to R40, R70, R71, R124, R162: an OUT transaction carries to the lane's OUT endpoint the data packet that the phone has
not yet accepted: packets of P bytes and a shorter, possibly empty, last one, which together are the packet; each accepted one
changes the data toggle (logs 23 and 29). Its outcomes: a NAK repeats the data packet; an accepted one
moves on and restarts the timer, and the last of them (a short or empty one ends the packet) makes the send succeed; a STALL
refuses the send and the endpoint's stall is to be cleared; a transport error raises the error count, and is a link fault at
the attempt limit of the count or of the send, RETRY_WAIT otherwise. -/
def Obligations.OutTransactions : Prop :=
  ∀ (s : State) (l : LaneId) (L : LaneState) (f : Flight) (left : Nat), s.lane l = L → L.link.out = .sending f left →
    let done : OutResult → Answer := fun r => exec (.outTransactionDone l r) s
    let counted : Nat → OutEngine → State := fun n e =>
      s.onLane l fun K => { K with link := { K.link with errorCount := n, out := e } }
    let last := f.record.data.length / (if L.link.highSpeed = true then 512 else 64)
    let retries := f.attempt - 1
    let moved : OutEngine → State := fun e => s.onLane l fun K =>
      { K with link := { K.link with errorCount := 0, out := e, outToggle := !K.link.outToggle } }
    let sent : State := ((moved .idle).onLane l fun K =>
      { K with
        link := { K.link with recovered := min 65535 (K.link.recovered + retries) }
        activity := some 50000 }).releaseDown f.record.cells
    (∀ d, L.link.function = some d → f.accepted ≤ last →
      ∃ (whole : List (List Byte)) (final packet : List Byte), whole.flatten ++ final = f.record.data ∧ whole.length = last ∧
        (∀ q ∈ whole, q.length = if L.link.highSpeed = true then 512 else 64) ∧
        final.length < (if L.link.highSpeed = true then 512 else 64) ∧
        (whole ++ [final])[f.accepted]? = some packet ∧
        L.link.outTransaction = some ⟨L.link.address, d.outEndpoint, L.link.outToggle, packet⟩) ∧
    done .nak = .next (counted 0 (.sending f left)) ∧
    (f.accepted < last → done .accepted = .next
      (moved (.sending { f with accepted := f.accepted + 1 } (f.timeout * 1000)))) ∧
    (last ≤ f.accepted → retries = 0 ∨ L.options.reportRecovered = false → done .accepted = .next
      (sent.goodReply 0x20 f.record.tag f.record.sender l (le16 f.record.epoch.toNat ++ le8 retries))) ∧
    (last ≤ f.accepted → retries ≠ 0 → L.options.reportRecovered = true → done .accepted = .next
      (sent.checkReply (.sendRetried retries) 0x20 f.record.tag f.record.sender l)) ∧
    done .stall = .next (((counted 0 (.sending f left)).sendRefused .sendStalled f l).onLane l fun K =>
      { K with link := { K.link with clearings := K.link.clearings ++ [.out] } }) ∧
    (L.options.attemptLimit ≤ L.link.errorCount + 1 ∨ L.options.attemptLimit ≤ f.attempt →
      done .transportError = .next (s.linkFault 0 l)) ∧
    (L.link.errorCount + 1 < L.options.attemptLimit → f.attempt < L.options.attemptLimit →
      done .transportError = .next (counted (L.link.errorCount + 1) (.retryWait f 1000)))

/-! ### The IN engine and the collector -/

/-- R40, R43, R36, R37: a stall clearing. One that is done, or that the phone answers with STALL, makes way for the next and
zeroes the error count, and puts the endpoint's data toggle back to DATA0 (log 23); a NAK repeats it at once; a transport error
counts for the engine of its endpoint, and repeats it after 1 ms unless it is a link fault. (What a NAK and a STALL do to the
error count is the model's reading, log 14.) R41, R42, R43: an IDLE engine issues a poll when the three poll conditions hold, and
only then. The end of a POLL_WAIT rechecks them: where they hold, the poll that has met a transport error goes on in POLLING, or
the next one is issued; where they fail, the engine goes to IDLE, and that poll goes on with the bytes it has read (R58, R59; that
it does so in IDLE, and is POLLING again when the conditions hold, is the model's reading, log 12). It waits for the clearing of a
stalled endpoint. A partial packet whose time runs out, also in the wait after a transport error, in which its timer runs on
(log 13), is discarded as one transport error. -/
def Obligations.ClearingsPollsAndWaits : Prop :=
  (∀ (s : State) (l : LaneId) (L : LaneState), s.lane l = L →
    (∀ e rest, L.link.clearings = e :: rest → L.link.clearRetry = none →
      let done : ClearResult → Answer := fun r => exec (.stallClearingDone l r) s
      let ended : State := s.setLane l { L with link := { L.link with
        errorCount := 0, clearings := rest
        outToggle := if e = .out then false else L.link.outToggle
        inToggle := if e = .inn then false else L.link.inToggle } }
      done .cleared = .next ended ∧ done .stall = .next ended ∧ done .nak = .next s ∧
      (L.options.attemptLimit ≤ L.link.errorCount + 1 →
        done .transportError = .next (s.linkFault (if e = .out then 0 else 1) l)) ∧
      (L.link.errorCount + 1 < L.options.attemptLimit →
        done .transportError = .next (s.setLane l
          { L with link := { L.link with errorCount := L.link.errorCount + 1, clearRetry := some 1000 } }))) ∧
    ∀ left, L.link.clearRetry = some left →
      exec (.stallClearingRetry l) s = .next ((s.advance left).onLane l fun K =>
        { K with link := { K.link with clearRetry := none } })) ∧
  ∀ (s : State) (l : LaneId) (L : LaneState), s.lane l = L →
    let engine : State → InEngine → State := fun t e => t.onLane l fun K => { K with link := { K.link with inn := e } }
    (∀ underWay, L.link.inn = .idle underWay →
      (s.pollConditions l → exec (.pollIssue l) s = .next (engine s (.polling (underWay.getD Poll.fresh)))) ∧
      (¬ s.pollConditions l → exec (.pollIssue l) s = .next s)) ∧
    (∀ left, L.link.inn = .pollWait left none →
      (.inn ∈ L.link.clearings → exec (.pollWaitEnd l) s = .next s) ∧
      (.inn ∉ L.link.clearings → s.pollConditions l →
        exec (.pollWaitEnd l) s = .next (engine (s.advance left) (.polling Poll.fresh))) ∧
      (.inn ∉ L.link.clearings → ¬ s.pollConditions l →
        exec (.pollWaitEnd l) s = .next (engine (s.advance left) (.idle none)))) ∧
    (∀ left p, L.link.inn = .pollWait left (some p) →
      let kept : Poll := ⟨p.bytes, p.count, p.nakTimer.map fun t => t - left⟩
      (s.pollConditions l → exec (.pollWaitEnd l) s = .next (engine (s.advance left) (.polling kept))) ∧
      (¬ s.pollConditions l → exec (.pollWaitEnd l) s = .next (engine (s.advance left) (.idle (some kept))))) ∧
    ∀ bytes count left,
      L.link.inn = .polling ⟨bytes, count, some left⟩ ∨
        (∃ w, L.link.inn = .pollWait w (some ⟨bytes, count, some left⟩)) ∨
        L.link.inn = .idle (some ⟨bytes, count, some left⟩) →
      (L.options.attemptLimit ≤ L.link.errorCount + 1 →
        exec (.pollNakTimeout l) s = .next ((s.advance left).linkFault 1 l)) ∧
      (L.link.errorCount + 1 < L.options.attemptLimit →
        exec (.pollNakTimeout l) s = .next ((s.advance left).onLane l fun K =>
          { K with link := { K.link with errorCount := L.link.errorCount + 1, inn := .pollWait 125 none } }))

/-- R29, R36, R37, R41 to R43, R58, R59, R84, R162: an IN transaction of a poll asks the lane's IN endpoint, and its outcomes, in
POLLING and in an engine that is IDLE while the poll runs to its end (log 12), so also where the lane is flow-held or the pool squeezed. A data packet
whose data toggle is not the awaited one is one that has been taken, and adds nothing; each one taken changes the awaited toggle
(logs 23 and 29). The partial-packet timer takes the send timeout in force at an accepted data packet and is kept through the POLL_WAIT of
a transport error (log 13). A packet that ends is handed to the
collector with the number of bytes that the phone sent, starts the activity timer, and the next poll follows if the poll
conditions hold then. -/
def Obligations.InTransactions : Prop :=
  ∀ (s : State) (l : LaneId) (L : LaneState) (p : Poll) (going : Poll → InEngine), s.lane l = L →
    going = .polling ∨ (going = fun q => .idle (some q)) → L.link.inn = going p →
    let done : InResult → Answer := fun r => exec (.inTransactionDone l r) s
    let counted : Nat → InEngine → State := fun n e =>
      s.onLane l fun K => { K with link := { K.link with errorCount := n, inn := e } }
    let failed : Answer → Prop := fun x =>
      (L.options.attemptLimit ≤ L.link.errorCount + 1 → x = .next (s.linkFault 1 l)) ∧
      (L.link.errorCount + 1 < L.options.attemptLimit →
        x = .next (counted (L.link.errorCount + 1) (.pollWait 125 (some p))))
    let taken : InEngine → State := fun e => s.onLane l fun K =>
      { K with link := { K.link with errorCount := 0, inn := e, inToggle := !K.link.inToggle } }
    (∀ d, L.link.function = some d → L.link.inTransaction = some (L.link.address, d.inEndpoint)) ∧
    (p.count = 0 → done .nak = .next (counted 0 (.pollWait 125 none))) ∧
    (0 < p.count → done .nak = .next (counted 0 (going p))) ∧
    failed (done .transportError) ∧
    done .stall = .next (((counted 0 (.pollWait 125 none)).onLane l fun K =>
      { K with link := { K.link with clearings := K.link.clearings ++ [.inn] } }).recordAsync .pollStalled l) ∧
    ∀ data : List Byte,
      let size := if L.link.highSpeed = true then 512 else 64
      let kept := (p.bytes ++ data).take 1024
      let count := p.count + data.length
      let taking : Answer := done (.data L.link.inToggle data)
      (∀ toggle, size < data.length → failed (done (.data toggle data))) ∧
      (data.length ≤ size →
        done (.data (!L.link.inToggle) data) = .next (counted 0 (going p))) ∧
      (data.length = size → count < 2048 →
        taking = .next (taken (going ⟨kept, count, some (L.options.sendTimeout * 1000)⟩))) ∧
      (data.length < size ∨ (data.length = size ∧ 2048 ≤ count) →
        ∃ t : State,
          t = ((taken (.idle none)).onLane l fun K => { K with activity := some 50000 }).arrival kept count l ∧
          (t.pollConditions l → taking = .next
            (t.onLane l fun K => { K with link := { K.link with inn := .polling Poll.fresh } })) ∧
          (¬ t.pollConditions l → taking = .next
            (t.onLane l fun K => { K with link := { K.link with inn := .idle none } })))

/-- R84 to R89, R54, R55, R58, R59, R91, R92: an arrival passes the length, class, sequence and admission steps in that
order. A damaged packet that is not kept, and a packet whose class is discarded or counted, take no sequence number; an
admitted one joins the queue's tail, takes its cells and has timer, eligibility, hold and squeeze evaluated; one that is
refused is an overrun. -/
def Obligations.ArrivalsAreJudgedInFourSteps : Prop :=
  ∀ (s : State) (l : LaneId) (L : LaneState) (kept : List Byte) (count : Nat), s.lane l = L →
    let limit := if L.options.long = true then 1024 else 512
    let data := if count ≤ limit then kept else kept.take limit
    let damaged := decide (limit < count)
    let action := s.classes[(data.headD 0).toNat]
    let lost := action = .discard ∨ action = .count
    let cells := (data.length + 16 + 127) / 128
    let borrows : Nat → Nat := fun u => u - s.reserve
    let free := (2048 - s.downCells - 24 * s.reserve) - ((List.finRange 24).map fun k => borrows (s.lane k).occupancy).sum
    let fits := L.occupancy + cells ≤ L.options.cap ∧
      borrows (L.occupancy + cells) - borrows L.occupancy ≤ free
    let record : PacketRecord :=
      ⟨data, L.upstream.seq, L.link.epoch, damaged, decide (action = .urgent), L.upstream.firstPending, L.upstream.drops⟩
    let queue := L.upstream.queue ++ [record]
    let ripe := L.options.packTimer = 0 ∨
      (L.options.packThreshold ≠ 0 ∧ L.options.packThreshold ≤ queuedBytes queue) ∨ ∃ p ∈ queue, p.urgent = true
    (limit < count → L.options.keepDamaged = false →
      s.arrival kept count l = s.onLane l fun K =>
        { K with upstream := { K.upstream with damaged := K.upstream.damaged + 1 } }) ∧
    (count ≤ limit ∨ L.options.keepDamaged = true →
      (action = .discard → L.options.promiscuous = false → s.arrival kept count l = s) ∧
      (action = .count → L.options.promiscuous = false →
        s.arrival kept count l = s.onLane l fun K =>
          { K with upstream := { K.upstream with counted := K.upstream.counted + 1 } }) ∧
      (¬ lost ∨ L.options.promiscuous = true →
        (fits → ∃ u : Upstream, s.arrival kept count l =
            (s.setLane l
              { L with
                upstream := u, occupancy := L.occupancy + cells
                flowHeld := if L.options.high ≤ L.occupancy + cells then true else L.flowHeld }).enterSqueeze ∧
          { u with packTimer := L.upstream.packTimer, eligible := L.upstream.eligible } =
            { L.upstream with queue := queue, seq := L.upstream.seq + 1, drops := 0, firstPending := false } ∧
          (ripe → u.eligible = true ∧ u.packTimer = none) ∧
          (¬ ripe → u.eligible = L.upstream.eligible ∧
            u.packTimer = if L.upstream.queue = [] then some (L.options.packTimer * 100) else L.upstream.packTimer)) ∧
        (¬ fits → s.arrival kept count l =
          ((s.onLane l fun K =>
              { K with upstream := { K.upstream with
                  seq := K.upstream.seq + 1, drops := min 255 (K.upstream.drops + 1) } }).recordAsync
            (.upstreamOverrun L.upstream.seq.toNat) l).offerLane .overrun l)))

/-! ### Samples, strokes and nests -/

/-- R132 to R134, R138 to R140: a sample event of a lane: an ARMED NOW window fires, the active window takes the sample, then
the trip logic does, and the next sample is due at the next multiple of 250 µs after it (log 21). A window that ends leaves its result, offers
WINDOW_DONE and promotes the staged one; the samples of the blanking are counted and not judged (a blanking that a SET_TRIP found
passed stays passed: log 30); a run that reaches its count trips the supply. R138: a window that fires goes to MEASURING with
nothing measured, or to DELAYING with its whole delay. -/
def Obligations.SampleServesWindowThenTrip : Prop :=
  (∀ p : WindowParams, (p.delay = 0 → p.start = .measuring p ⟨0, 0, none, none, none⟩) ∧
    (0 < p.delay → p.start = .delaying p p.delay)) ∧
  (∀ (s : State) (l : LaneId) (v : Fin 4096) (left : Nat), (s.lane l).supply.nextSample = some left →
    let t : State := (s.advance left).onLane l fun L => { L with supply := { L.supply with
      active := match L.supply.active with
        | .armed p => if p.trigger = .now then p.start else .armed p
        | w => w } }
    let due := min (250 - t.timebase.toNat % 250) (4294967296 - t.timebase.toNat)
    exec (.sampleEvent l v) s = .next (((t.windowSample v.val l).tripSample v.val l).onLane l fun L =>
      { L with supply := { L.supply with nextSample := some due } })) ∧
  (∀ (s : State) (l : LaneId) (v : Nat),
    let active : ActiveWindow → State := fun w => s.onLane l fun L => { L with supply := { L.supply with active := w } }
    ((s.lane l).supply.active.resting ∨ (∃ p, (s.lane l).supply.active = .armed p) → s.windowSample v l = s) ∧
    (∀ p k, (s.lane l).supply.active = .delaying p k →
      (2 ≤ k → s.windowSample v l = active (.delaying p (k - 1))) ∧
      (k ≤ 1 → s.windowSample v l = active (.measuring p ⟨0, 0, none, none, none⟩))) ∧
    ∀ p f, (s.lane l).supply.active = .measuring p f →
      let meets := p.level ≠ 0 ∧ ((p.rise = true ∧ p.level ≤ v) ∨ (p.rise = false ∧ v ≤ p.level))
      ∃ capture : Option Nat,
        (f.capture = none → meets → capture = some f.samples) ∧
        (f.capture ≠ none ∨ ¬ meets → capture = f.capture) ∧
        let g : Figures := ⟨f.samples + 1, f.sum + v, some (min v (f.minimum.getD v)), some (max v (f.maximum.getD v)), capture⟩
        (f.samples + 1 < p.length → s.windowSample v l = active (.measuring p g)) ∧
        (p.length ≤ f.samples + 1 → s.windowSample v l = s.endWindow true p g l)) ∧
  (∀ (s : State) (l : LaneId) (p : WindowParams) (f : Figures) (b : Bool),
    s.endWindow b p f l = (s.offerLane .windowDone l).onLane l fun L => { L with supply := { L.supply with
      result := some ⟨b, p.length, f, s.timebase⟩
      active := match L.supply.staged with
        | some q => .armed q
        | none => if b = true then .done p else .aborted p
      staged := none } }) ∧
  ∀ (s : State) (l : LaneId) (v : Nat) (u : Supply), (s.lane l).supply = u →
    let setting : Supply → State := fun w => s.onLane l fun L => { L with supply := w }
    let past := u.blankPassed = true ∨ u.blanking ≤ u.blankCount
    let judged := u.state = .on ∧ past ∧ u.tripLevel ≠ 0
    (u.state ≠ .on → s.tripSample v l = s) ∧
    (u.state = .on → ¬ past →
      s.tripSample v l = setting { u with blankCount := u.blankCount + 1 }) ∧
    (u.state = .on → past → u.tripLevel = 0 ∨ v ≤ u.tripLevel →
      s.tripSample v l = setting { u with tripRun := 0 }) ∧
    (judged → u.tripLevel < v → u.tripRun + 1 < u.tripCount →
      s.tripSample v l = setting { u with tripRun := u.tripRun + 1 }) ∧
    (judged → u.tripLevel < v → u.tripCount ≤ u.tripRun + 1 →
      let tripped : State := setting { u with state := .tripped, blankCount := 0, blankPassed := false, tripRun := 0 }
      (∀ p k, u.active = .delaying p k → s.tripSample v l =
        (((tripped.endWindow false p ⟨0, 0, none, none, none⟩ l).recordAsync (.overcurrent v) l).offerLane
          .supplyTripped l)) ∧
      (∀ p f, u.active = .measuring p f → s.tripSample v l =
        (((tripped.endWindow false p f l).recordAsync (.overcurrent v) l).offerLane .supplyTripped l)) ∧
      (u.active.resting ∨ (∃ p, u.active = .armed p) → s.tripSample v l =
        ((tripped.recordAsync (.overcurrent v) l).offerLane .supplyTripped l)))

/-- R150 to R153: a step starts at the start instant, at the end of a step whose successor starts at once, and at the end of
a release gap: it leaves the queue, is numbered, drives its keys and no others, fires a STROKE_STEP window, and may raise
STROKES_LOW. At a step's end an empty queue ends the run with STROKES_DONE; a shared key without TIE is lifted for the
release gap. -/
def Obligations.StrokeStepsRun : Prop :=
  ∀ (s : State) (l : LaneId) (L : LaneState), s.lane l = L →
    (∀ instant left, L.strokes.state = .pending instant left → L.strokes.queue ≠ [] →
      exec (.startInstant l) s = .next ((s.advance left).startStep l)) ∧
    (∀ left, L.strokes.state = .gap left → L.strokes.queue ≠ [] →
      exec (.releaseGapEnd l) s = .next ((s.advance left).startStep l)) ∧
    (∀ current left, L.strokes.state = .step current left →
      (L.strokes.queue = [] → exec (.stepEnd l) s = .next
        (((s.advance left).offerLane .strokesDone l).onLane l fun K =>
          { K with strokes := { K.strokes with state := .idle, keyA := false, keyB := false } })) ∧
      ∀ next rest, L.strokes.queue = next :: rest →
        let shared := (current.keyA = true ∧ next.keyA = true) ∨ (current.keyB = true ∧ next.keyB = true)
        (next.tie = false → shared → exec (.stepEnd l) s = .next
          ((s.advance left).onLane l fun K => { K with strokes := { K.strokes with
            state := .gap (K.strokes.gap * 1000), keyA := false, keyB := false } })) ∧
        (next.tie = true ∨ ¬ shared → exec (.stepEnd l) s = .next ((s.advance left).startStep l))) ∧
    ∀ st rest, L.strokes.queue = st :: rest →
      let n := min 65535 (L.strokes.stepNumber + 1)
      let low := L.strokes.lowArmed = true ∧ rest.length = L.strokes.lowMark
      let started : Bool → LaneState := fun armed =>
        { L with
          strokes := { L.strokes with
            state := .step st (st.duration * 1000), keyA := st.keyA, keyB := st.keyB, queue := rest, stepNumber := n
            lowArmed := armed }
          supply := { L.supply with
            active := match L.supply.active with
              | .armed p => if p.trigger = .strokeStep ∧ p.step = n then p.start else .armed p
              | w => w } }
      (low → s.startStep l = (s.offerLane .strokesLow l).setLane l (started false)) ∧
      (¬ low → s.startStep l = s.setLane l (started L.strokes.lowArmed))

/-- R157 to R159, R131, R155: a nest whose qualification ends takes the raw level. Seated: the link acts, NEST_CHANGED is set
for all eight, NEST_SEATED is offered. Emptied: the link leaves its state and forgets the identity; an ON supply goes OFF and
its window is aborted; running strokes are stopped; keep is cleared; conditions go to the beneficiary in that order; then
NEST_CHANGED and NEST_EMPTIED. (The flag blankPassed that an OFF supply loses is the model's, log 30.) -/
def Obligations.NestsSettle : Prop :=
  ∀ (s : State) (l : LaneId) (left : Nat) (L : LaneState), (s.lane l).nest.qual = some left → s.lane l = L →
    let t : State := (s.advance left).onLane l fun K => { K with nest := ⟨L.nest.raw, L.nest.raw, none⟩ }
    let changed : State → State := fun u => u.onLane l fun K =>
      { K with sense := Vector.ofFn fun o => { K.sense[o] with causes := K.sense[o].causes ||| 4 } }
    (L.nest.raw = true →
      (L.link.state = .vacant → exec (.nestQualificationEnd l) s = .next
        ((changed (t.linkEnters l L.connected)).offerLane .nestSeated l)) ∧
      (L.link.state ≠ .vacant → exec (.nestQualificationEnd l) s = .next ((changed t).offerLane .nestSeated l))) ∧
    (L.nest.raw = false → ∃ linkGone supplyOff windowOff strokesOff keepOff : State,
      (L.link.state = .up → linkGone = (t.leaveUp l).onLane l fun K =>
        { K with link := { K.link with state := .vacant, identity := none } }) ∧
      (L.link.state = .disabled → linkGone = t.onLane l fun K => { K with link := { K.link with identity := none } }) ∧
      (L.link.state ≠ .up → L.link.state ≠ .disabled → linkGone = t.onLane l fun K =>
        { K with link := { K.link with state := .vacant, identity := none } }) ∧
      (L.supply.state = .on → supplyOff = linkGone.onLane l fun K =>
        { K with supply := { K.supply with state := .off, blankCount := 0, blankPassed := false, tripRun := 0 } }) ∧
      (L.supply.state ≠ .on → supplyOff = linkGone) ∧
      (∀ p, L.supply.active = .armed p → windowOff = supplyOff.endWindow false p ⟨0, 0, none, none, none⟩ l) ∧
      (∀ p k, L.supply.active = .delaying p k → windowOff = supplyOff.endWindow false p ⟨0, 0, none, none, none⟩ l) ∧
      (∀ p f, L.supply.active = .measuring p f → windowOff = supplyOff.endWindow false p f l) ∧
      (L.supply.active.resting → windowOff = supplyOff) ∧
      (L.strokes.state.code = 1 → strokesOff = (windowOff.onLane l fun K => { K with strokes := { K.strokes with
        queue := [], state := .stopping 15000, keyA := false, keyB := false } }).recordAsync .nestEmptiedStroking l) ∧
      (L.strokes.state.code = 2 → strokesOff = (windowOff.onLane l fun K =>
        { K with strokes := { K.strokes with queue := [] } }).recordAsync .nestEmptiedStroking l) ∧
      (L.strokes.state = .idle → strokesOff = windowOff) ∧
      (L.keep = true → keepOff = (strokesOff.recordAsync .removedWhileKept l).onLane l fun K => { K with keep := false }) ∧
      (L.keep = false → keepOff = strokesOff) ∧
      exec (.nestQualificationEnd l) s = .next ((changed keepOff).offerLane .nestEmptied l))

/-! ### Sense records -/

/-- R119: recording a condition into a record, in both kinds of record; a record that takes conditions one after the other
from its last clearing holds the last of those of highest rank, and one further condition less than it took, at most 255.
R114, R115: the key, which is the rank, the code and the residual of every condition. -/
def Obligations.RecordingRule : Prop :=
  (∀ n : Nat,
    let row : Nat → Nat → Option Nat → Cond → Prop := fun key code residual c =>
      c.key = key ∧ c.code = code ∧ c.residual = residual
    (row 1 1 (some n) (.sendRetried n) ∧ row 2 1 (some n) (.linkNotUp n) ∧ row 2 2 (some n) (.downFull n) ∧
      row 2 3 none .poolInUse ∧ row 2 4 none (.nestEmpty none) ∧ row 2 4 (some n) (.nestEmpty (some n)) ∧
      row 2 5 none .tripLatched ∧ row 2 6 none .windowStaged ∧ row 2 7 (some n) (.strokeQueueFull n) ∧
      row 2 8 (some n) (.strokesBusy n) ∧ row 2 9 none .linkDisabled) ∧
    (row 3 1 none .unknownRequest ∧ row 3 2 none .badLane ∧ row 3 3 none .badLength ∧ row 3 4 none .badField ∧
      row 3 5 (some n) (.poolSplit n)) ∧
    (row 4 1 none .flushed ∧ row 4 2 (some n) (.chainBroken n) ∧ row 4 3 none .laneReset) ∧
    row 5 1 (some n) (.upstreamOverrun n) ∧
    (row 6 1 (some n) (.sendStalled n) ∧ row 6 2 (some n) (.sendTimeout n) ∧ row 6 3 none .pollStalled) ∧
    (row 7 1 none .linkLost ∧ row 7 2 (some n) (.attachFailed n) ∧ row 7 3 (some n) (.transportErrors n)) ∧
    row 8 1 (some n) (.overcurrent n) ∧ row 8 2 none .nestEmptiedStroking ∧ row 8 3 none .removedWhileKept) ∧
  (∀ (r : Sense) (c : Cond) (now : Stamp) (epoch : Option (BitVec 16)),
    (r.held = none → r.record c now epoch = { r with held := some ⟨c, now, epoch⟩ }) ∧
    ∀ h, r.held = some h →
      (h.cond.key ≤ c.key →
        r.record c now epoch = { r with held := some ⟨c, now, epoch⟩, further := min 255 (r.further + 1) }) ∧
      (c.key < h.cond.key → r.record c now epoch = { r with further := min 255 (r.further + 1) })) ∧
  (∀ (s : State) (c : Cond) (o : Originator) (l : LaneId),
    s.recordLane c o l = (s.onLane l fun L =>
      { L with sense := L.sense.set o (L.sense[o].record c s.timebase (some L.link.epoch)) }) ∧
    s.recordDevice c o = { s with deviceSense := s.deviceSense.set o (s.deviceSense[o].record c s.timebase none) }) ∧
  ∀ (first : Held) (more : List Held) (causes : BitVec 8),
    ∃ before best after, first :: more = before ++ best :: after ∧ (∀ h ∈ before, h.cond.key ≤ best.cond.key) ∧
      (∀ h ∈ after, h.cond.key < best.cond.key) ∧
      (first :: more).foldl (fun (r : Sense) (h : Held) => r.record h.cond h.time h.epoch) (⟨none, 0, causes⟩ : Sense) =
        (⟨some best, min 255 more.length, causes⟩ : Sense)

/-! ### Invariants -/

/-- R24, R64, R100, R128: the state after a reset holds every block's reset values and meets every invariant of a safe run. (Where the reset state fixes what the
spec leaves to the outside, the pins and VBUS, it is the model's choice, log 6. The reset values of a link's address, function and
data toggles, logs 23 and 29, and of the flag blankPassed, log 30, are the model's.) -/
def Obligations.ResetIsSafe : Prop := State.reset.fresh ∧ State.reset.safe

/-- R116, R119 to R122: in every record a key of NONE goes with a further count of 0, and no count passes 255, before and
after every step. -/
def Obligations.SenseRecordsStaySound : Prop :=
  ∀ s t : State, s.sensesSound → step s = .next t → t.sensesSound

/-- R26, R35, R66: at most 16 sends are queued on a lane, and a lane whose link is not UP has no send, no poll and no stall
clearing, before and after every step. -/
def Obligations.SendQueuesStaySound : Prop :=
  ∀ s t : State, (∀ l : LaneId, (s.lane l).sendsSound) → step s = .next t → ∀ l : LaneId, (t.lane l).sendsSound

/-- R145, R146, R131, R155, R159: keys are driven by a current step alone, at most 16 steps are queued, and an EMPTY nest has
no supply ON and no stroke run, before and after every step. -/
def Obligations.FixturesStaySound : Prop :=
  ∀ s t : State, (∀ l : LaneId, (s.lane l).fixtureSound) → step s = .next t → ∀ l : LaneId, (t.lane l).fixtureSound

/-- R54, R62: on every lane 9 ≤ H ≤ cap, L ≤ H − 9, and the occupancy is within the cap, before and after every step. -/
def Obligations.MarksStaySound : Prop :=
  ∀ s t : State, (∀ l : LaneId, (s.lane l).marksSound) → step s = .next t → ∀ l : LaneId, (t.lane l).marksSound

/-- R49, R51 to R54, R57: the counts of the packet memory are the cells of what is stored, no region is overfilled, and the
total borrowing stays within the shared pool, before and after every step. -/
def Obligations.CellAccountsStaySound : Prop :=
  ∀ s t : State, s.cellsSound → step s = .next t → t.cellsSound

/-- R6, R7: READY and RESERVED entries never exceed 448, and a frame that has been begun has an entry FREE for its reply,
before and after every step. -/
def Obligations.ReplyStoreStaysSound : Prop :=
  ∀ s t : State, s.repliesSound → step s = .next t → t.repliesSound
end

