-- ==== Sys2Proof/Laws/State.lean ====
section
/-! SUPPORT. The small lemmas of the state's updates: for each shared update, one lemma per field it leaves alone, and
what it does to the lane or the originator that it changes. Every proof about the machine rewrites with these, and
none unfolds a record update again. -/

namespace Sys2Proof.Machine

/-! ### One lane -/

@[simp] theorem State.lane_setLane_self (s : State) (l : LaneId) (v : LaneState) : (s.setLane l v).lane l = v := by
  simp [State.lane, State.setLane]

@[simp] theorem State.lane_setLane_ne (s : State) {l k : LaneId} (v : LaneState) (h : l ≠ k) :
    (s.setLane l v).lane k = s.lane k := by
  have : (l : Nat) ≠ k := fun e => h (Fin.ext e)
  simp [State.lane, State.setLane, this]

@[simp] theorem State.lane_onLane_self (s : State) (l : LaneId) (f : LaneState → LaneState) :
    (s.onLane l f).lane l = f (s.lane l) := by simp [State.onLane]

@[simp] theorem State.lane_onLane_ne (s : State) {l k : LaneId} (f : LaneState → LaneState) (h : l ≠ k) :
    (s.onLane l f).lane k = s.lane k := by simp [State.onLane, h]

theorem State.lane_onLane (s : State) (l k : LaneId) (f : LaneState → LaneState) :
    (s.onLane l f).lane k = if l = k then f (s.lane k) else s.lane k := by
  by_cases h : l = k
  · subst h; simp
  · simp [h]

/-- Two changes of one lane are one change. -/
@[simp] theorem State.onLane_onLane (s : State) (l : LaneId) (f g : LaneState → LaneState) :
    (s.onLane l f).onLane l g = s.onLane l (fun L => g (f L)) := by
  simp [State.onLane, State.setLane, State.lane]

@[simp] theorem State.lane_onLanes (s : State) (f : LaneId → LaneState → LaneState) (l : LaneId) :
    (s.onLanes f).lane l = f l (s.lane l) := by simp [State.lane, State.onLanes]

/-- A lane that takes its own value changes nothing. -/
@[simp] theorem State.setLane_lane (s : State) (l : LaneId) : s.setLane l (s.lane l) = s := by
  simp [State.setLane, State.lane]

/-! ### One originator -/

@[simp] theorem State.orig_onOriginators (s : State) (f : Originator → OriginatorState → OriginatorState)
    (o : Originator) : (s.onOriginators f).orig o = f o (s.orig o) := by simp [State.orig, State.onOriginators]

@[simp] theorem State.orig_onOriginator_self (s : State) (o : Originator) (f : OriginatorState → OriginatorState) :
    (s.onOriginator o f).orig o = f (s.orig o) := by simp [State.orig, State.onOriginator]

@[simp] theorem State.orig_onOriginator_ne (s : State) {o p : Originator} (f : OriginatorState → OriginatorState)
    (h : o ≠ p) : (s.onOriginator o f).orig p = s.orig p := by
  have : (o : Nat) ≠ p := fun e => h (Fin.ext e)
  simp [State.orig, State.onOriginator, this]

@[simp] theorem LaneState.sense_onSense_self (L : LaneState) (o : Originator) (f : Sense → Sense) :
    (L.onSense o f).sense[o.val] = f L.sense[o] := by simp [LaneState.onSense]

@[simp] theorem LaneState.sense_onSense_ne (L : LaneState) {o p : Originator} (f : Sense → Sense) (h : o ≠ p) :
    (L.onSense o f).sense[p.val] = L.sense[p] := by
  have : (o : Nat) ≠ p := fun e => h (Fin.ext e)
  simp [LaneState.onSense, this]


/-! ### What `setLane` leaves alone -/

@[simp] theorem State.setLane_port (s : State) (l : LaneId) (v : LaneState) : (s.setLane l v).port = s.port := rfl
@[simp] theorem State.setLane_vbus (s : State) (l : LaneId) (v : LaneState) : (s.setLane l v).vbus = s.vbus := rfl
@[simp] theorem State.setLane_hardReset (s : State) (l : LaneId) (v : LaneState) :
    (s.setLane l v).hardReset = s.hardReset := rfl
@[simp] theorem State.setLane_suspended (s : State) (l : LaneId) (v : LaneState) :
    (s.setLane l v).suspended = s.suspended := rfl
@[simp] theorem State.setLane_rx (s : State) (l : LaneId) (v : LaneState) : (s.setLane l v).rx = s.rx := rfl
@[simp] theorem State.setLane_ready (s : State) (l : LaneId) (v : LaneState) : (s.setLane l v).ready = s.ready := rfl
@[simp] theorem State.setLane_transmitting (s : State) (l : LaneId) (v : LaneState) :
    (s.setLane l v).transmitting = s.transmitting := rfl
@[simp] theorem State.setLane_staged (s : State) (l : LaneId) (v : LaneState) :
    (s.setLane l v).staged = s.staged := rfl
@[simp] theorem State.setLane_originators (s : State) (l : LaneId) (v : LaneState) :
    (s.setLane l v).originators = s.originators := rfl
@[simp] theorem State.setLane_served (s : State) (l : LaneId) (v : LaneState) :
    (s.setLane l v).served = s.served := rfl
@[simp] theorem State.setLane_timebase (s : State) (l : LaneId) (v : LaneState) :
    (s.setLane l v).timebase = s.timebase := rfl
@[simp] theorem State.setLane_resetPending (s : State) (l : LaneId) (v : LaneState) :
    (s.setLane l v).resetPending = s.resetPending := rfl
@[simp] theorem State.setLane_downCells (s : State) (l : LaneId) (v : LaneState) :
    (s.setLane l v).downCells = s.downCells := rfl
@[simp] theorem State.setLane_reserve (s : State) (l : LaneId) (v : LaneState) :
    (s.setLane l v).reserve = s.reserve := rfl
@[simp] theorem State.setLane_downHeld (s : State) (l : LaneId) (v : LaneState) :
    (s.setLane l v).downHeld = s.downHeld := rfl
@[simp] theorem State.setLane_squeezed (s : State) (l : LaneId) (v : LaneState) :
    (s.setLane l v).squeezed = s.squeezed := rfl
@[simp] theorem State.setLane_classes (s : State) (l : LaneId) (v : LaneState) :
    (s.setLane l v).classes = s.classes := rfl
@[simp] theorem State.setLane_prioPointer (s : State) (l : LaneId) (v : LaneState) :
    (s.setLane l v).prioPointer = s.prioPointer := rfl
@[simp] theorem State.setLane_normPointer (s : State) (l : LaneId) (v : LaneState) :
    (s.setLane l v).normPointer = s.normPointer := rfl
@[simp] theorem State.setLane_runCount (s : State) (l : LaneId) (v : LaneState) :
    (s.setLane l v).runCount = s.runCount := rfl
@[simp] theorem State.setLane_deviceSense (s : State) (l : LaneId) (v : LaneState) :
    (s.setLane l v).deviceSense = s.deviceSense := rfl
@[simp] theorem State.setLane_pending (s : State) (l : LaneId) (v : LaneState) :
    (s.setLane l v).pending = s.pending := rfl
@[simp] theorem State.orig_setLane (s : State) (l : LaneId) (v : LaneState) (p : Originator) :
    (s.setLane l v).orig p = s.orig p := rfl

/-! ### What `onLane` leaves alone -/

@[simp] theorem State.onLane_port (s : State) (l : LaneId) (f : LaneState → LaneState) :
    (s.onLane l f).port = s.port := rfl
@[simp] theorem State.onLane_vbus (s : State) (l : LaneId) (f : LaneState → LaneState) :
    (s.onLane l f).vbus = s.vbus := rfl
@[simp] theorem State.onLane_hardReset (s : State) (l : LaneId) (f : LaneState → LaneState) :
    (s.onLane l f).hardReset = s.hardReset := rfl
@[simp] theorem State.onLane_suspended (s : State) (l : LaneId) (f : LaneState → LaneState) :
    (s.onLane l f).suspended = s.suspended := rfl
@[simp] theorem State.onLane_rx (s : State) (l : LaneId) (f : LaneState → LaneState) : (s.onLane l f).rx = s.rx := rfl
@[simp] theorem State.onLane_ready (s : State) (l : LaneId) (f : LaneState → LaneState) :
    (s.onLane l f).ready = s.ready := rfl
@[simp] theorem State.onLane_transmitting (s : State) (l : LaneId) (f : LaneState → LaneState) :
    (s.onLane l f).transmitting = s.transmitting := rfl
@[simp] theorem State.onLane_staged (s : State) (l : LaneId) (f : LaneState → LaneState) :
    (s.onLane l f).staged = s.staged := rfl
@[simp] theorem State.onLane_originators (s : State) (l : LaneId) (f : LaneState → LaneState) :
    (s.onLane l f).originators = s.originators := rfl
@[simp] theorem State.onLane_served (s : State) (l : LaneId) (f : LaneState → LaneState) :
    (s.onLane l f).served = s.served := rfl
@[simp] theorem State.onLane_timebase (s : State) (l : LaneId) (f : LaneState → LaneState) :
    (s.onLane l f).timebase = s.timebase := rfl
@[simp] theorem State.onLane_resetPending (s : State) (l : LaneId) (f : LaneState → LaneState) :
    (s.onLane l f).resetPending = s.resetPending := rfl
@[simp] theorem State.onLane_downCells (s : State) (l : LaneId) (f : LaneState → LaneState) :
    (s.onLane l f).downCells = s.downCells := rfl
@[simp] theorem State.onLane_reserve (s : State) (l : LaneId) (f : LaneState → LaneState) :
    (s.onLane l f).reserve = s.reserve := rfl
@[simp] theorem State.onLane_downHeld (s : State) (l : LaneId) (f : LaneState → LaneState) :
    (s.onLane l f).downHeld = s.downHeld := rfl
@[simp] theorem State.onLane_squeezed (s : State) (l : LaneId) (f : LaneState → LaneState) :
    (s.onLane l f).squeezed = s.squeezed := rfl
@[simp] theorem State.onLane_classes (s : State) (l : LaneId) (f : LaneState → LaneState) :
    (s.onLane l f).classes = s.classes := rfl
@[simp] theorem State.onLane_prioPointer (s : State) (l : LaneId) (f : LaneState → LaneState) :
    (s.onLane l f).prioPointer = s.prioPointer := rfl
@[simp] theorem State.onLane_normPointer (s : State) (l : LaneId) (f : LaneState → LaneState) :
    (s.onLane l f).normPointer = s.normPointer := rfl
@[simp] theorem State.onLane_runCount (s : State) (l : LaneId) (f : LaneState → LaneState) :
    (s.onLane l f).runCount = s.runCount := rfl
@[simp] theorem State.onLane_deviceSense (s : State) (l : LaneId) (f : LaneState → LaneState) :
    (s.onLane l f).deviceSense = s.deviceSense := rfl
@[simp] theorem State.onLane_pending (s : State) (l : LaneId) (f : LaneState → LaneState) :
    (s.onLane l f).pending = s.pending := rfl
@[simp] theorem State.orig_onLane (s : State) (l : LaneId) (f : LaneState → LaneState) (p : Originator) :
    (s.onLane l f).orig p = s.orig p := rfl

/-! ### What `onLanes` leaves alone -/

@[simp] theorem State.onLanes_port (s : State) (f : LaneId → LaneState → LaneState) :
    (s.onLanes f).port = s.port := by rw [State.onLanes]
@[simp] theorem State.onLanes_vbus (s : State) (f : LaneId → LaneState → LaneState) :
    (s.onLanes f).vbus = s.vbus := by rw [State.onLanes]
@[simp] theorem State.onLanes_hardReset (s : State) (f : LaneId → LaneState → LaneState) :
    (s.onLanes f).hardReset = s.hardReset := by rw [State.onLanes]
@[simp] theorem State.onLanes_suspended (s : State) (f : LaneId → LaneState → LaneState) :
    (s.onLanes f).suspended = s.suspended := by rw [State.onLanes]
@[simp] theorem State.onLanes_rx (s : State) (f : LaneId → LaneState → LaneState) :
    (s.onLanes f).rx = s.rx := by rw [State.onLanes]
@[simp] theorem State.onLanes_ready (s : State) (f : LaneId → LaneState → LaneState) :
    (s.onLanes f).ready = s.ready := by rw [State.onLanes]
@[simp] theorem State.onLanes_transmitting (s : State) (f : LaneId → LaneState → LaneState) :
    (s.onLanes f).transmitting = s.transmitting := by rw [State.onLanes]
@[simp] theorem State.onLanes_staged (s : State) (f : LaneId → LaneState → LaneState) :
    (s.onLanes f).staged = s.staged := by rw [State.onLanes]
@[simp] theorem State.onLanes_originators (s : State) (f : LaneId → LaneState → LaneState) :
    (s.onLanes f).originators = s.originators := by rw [State.onLanes]
@[simp] theorem State.onLanes_served (s : State) (f : LaneId → LaneState → LaneState) :
    (s.onLanes f).served = s.served := by rw [State.onLanes]
@[simp] theorem State.onLanes_timebase (s : State) (f : LaneId → LaneState → LaneState) :
    (s.onLanes f).timebase = s.timebase := by rw [State.onLanes]
@[simp] theorem State.onLanes_resetPending (s : State) (f : LaneId → LaneState → LaneState) :
    (s.onLanes f).resetPending = s.resetPending := by rw [State.onLanes]
@[simp] theorem State.onLanes_downCells (s : State) (f : LaneId → LaneState → LaneState) :
    (s.onLanes f).downCells = s.downCells := by rw [State.onLanes]
@[simp] theorem State.onLanes_reserve (s : State) (f : LaneId → LaneState → LaneState) :
    (s.onLanes f).reserve = s.reserve := by rw [State.onLanes]
@[simp] theorem State.onLanes_downHeld (s : State) (f : LaneId → LaneState → LaneState) :
    (s.onLanes f).downHeld = s.downHeld := by rw [State.onLanes]
@[simp] theorem State.onLanes_squeezed (s : State) (f : LaneId → LaneState → LaneState) :
    (s.onLanes f).squeezed = s.squeezed := by rw [State.onLanes]
@[simp] theorem State.onLanes_classes (s : State) (f : LaneId → LaneState → LaneState) :
    (s.onLanes f).classes = s.classes := by rw [State.onLanes]
@[simp] theorem State.onLanes_prioPointer (s : State) (f : LaneId → LaneState → LaneState) :
    (s.onLanes f).prioPointer = s.prioPointer := by rw [State.onLanes]
@[simp] theorem State.onLanes_normPointer (s : State) (f : LaneId → LaneState → LaneState) :
    (s.onLanes f).normPointer = s.normPointer := by rw [State.onLanes]
@[simp] theorem State.onLanes_runCount (s : State) (f : LaneId → LaneState → LaneState) :
    (s.onLanes f).runCount = s.runCount := by rw [State.onLanes]
@[simp] theorem State.onLanes_deviceSense (s : State) (f : LaneId → LaneState → LaneState) :
    (s.onLanes f).deviceSense = s.deviceSense := by rw [State.onLanes]
@[simp] theorem State.onLanes_pending (s : State) (f : LaneId → LaneState → LaneState) :
    (s.onLanes f).pending = s.pending := by rw [State.onLanes]
@[simp] theorem State.orig_onLanes (s : State) (f : LaneId → LaneState → LaneState) (p : Originator) :
    (s.onLanes f).orig p = s.orig p := by simp only [State.orig, State.onLanes]

/-! ### What `onOriginator` leaves alone -/

@[simp] theorem State.onOriginator_port (s : State) (o : Originator) (f : OriginatorState → OriginatorState) :
    (s.onOriginator o f).port = s.port := rfl
@[simp] theorem State.onOriginator_vbus (s : State) (o : Originator) (f : OriginatorState → OriginatorState) :
    (s.onOriginator o f).vbus = s.vbus := rfl
@[simp] theorem State.onOriginator_hardReset (s : State) (o : Originator) (f : OriginatorState → OriginatorState) :
    (s.onOriginator o f).hardReset = s.hardReset := rfl
@[simp] theorem State.onOriginator_suspended (s : State) (o : Originator) (f : OriginatorState → OriginatorState) :
    (s.onOriginator o f).suspended = s.suspended := rfl
@[simp] theorem State.onOriginator_rx (s : State) (o : Originator) (f : OriginatorState → OriginatorState) :
    (s.onOriginator o f).rx = s.rx := rfl
@[simp] theorem State.onOriginator_ready (s : State) (o : Originator) (f : OriginatorState → OriginatorState) :
    (s.onOriginator o f).ready = s.ready := rfl
@[simp] theorem State.onOriginator_transmitting (s : State) (o : Originator) (f : OriginatorState → OriginatorState) :
    (s.onOriginator o f).transmitting = s.transmitting := rfl
@[simp] theorem State.onOriginator_staged (s : State) (o : Originator) (f : OriginatorState → OriginatorState) :
    (s.onOriginator o f).staged = s.staged := rfl
@[simp] theorem State.onOriginator_served (s : State) (o : Originator) (f : OriginatorState → OriginatorState) :
    (s.onOriginator o f).served = s.served := rfl
@[simp] theorem State.onOriginator_timebase (s : State) (o : Originator) (f : OriginatorState → OriginatorState) :
    (s.onOriginator o f).timebase = s.timebase := rfl
@[simp] theorem State.onOriginator_resetPending (s : State) (o : Originator) (f : OriginatorState → OriginatorState) :
    (s.onOriginator o f).resetPending = s.resetPending := rfl
@[simp] theorem State.onOriginator_downCells (s : State) (o : Originator) (f : OriginatorState → OriginatorState) :
    (s.onOriginator o f).downCells = s.downCells := rfl
@[simp] theorem State.onOriginator_reserve (s : State) (o : Originator) (f : OriginatorState → OriginatorState) :
    (s.onOriginator o f).reserve = s.reserve := rfl
@[simp] theorem State.onOriginator_downHeld (s : State) (o : Originator) (f : OriginatorState → OriginatorState) :
    (s.onOriginator o f).downHeld = s.downHeld := rfl
@[simp] theorem State.onOriginator_squeezed (s : State) (o : Originator) (f : OriginatorState → OriginatorState) :
    (s.onOriginator o f).squeezed = s.squeezed := rfl
@[simp] theorem State.onOriginator_classes (s : State) (o : Originator) (f : OriginatorState → OriginatorState) :
    (s.onOriginator o f).classes = s.classes := rfl
@[simp] theorem State.onOriginator_prioPointer (s : State) (o : Originator) (f : OriginatorState → OriginatorState) :
    (s.onOriginator o f).prioPointer = s.prioPointer := rfl
@[simp] theorem State.onOriginator_normPointer (s : State) (o : Originator) (f : OriginatorState → OriginatorState) :
    (s.onOriginator o f).normPointer = s.normPointer := rfl
@[simp] theorem State.onOriginator_runCount (s : State) (o : Originator) (f : OriginatorState → OriginatorState) :
    (s.onOriginator o f).runCount = s.runCount := rfl
@[simp] theorem State.onOriginator_deviceSense (s : State) (o : Originator) (f : OriginatorState → OriginatorState) :
    (s.onOriginator o f).deviceSense = s.deviceSense := rfl
@[simp] theorem State.onOriginator_lanes (s : State) (o : Originator) (f : OriginatorState → OriginatorState) :
    (s.onOriginator o f).lanes = s.lanes := rfl
@[simp] theorem State.onOriginator_pending (s : State) (o : Originator) (f : OriginatorState → OriginatorState) :
    (s.onOriginator o f).pending = s.pending := rfl
@[simp] theorem State.lane_onOriginator (s : State) (o : Originator) (f : OriginatorState → OriginatorState) (i : LaneId) :
    (s.onOriginator o f).lane i = s.lane i := rfl

/-! ### What `onOriginators` leaves alone -/

@[simp] theorem State.onOriginators_port (s : State) (f : Originator → OriginatorState → OriginatorState) :
    (s.onOriginators f).port = s.port := rfl
@[simp] theorem State.onOriginators_vbus (s : State) (f : Originator → OriginatorState → OriginatorState) :
    (s.onOriginators f).vbus = s.vbus := rfl
@[simp] theorem State.onOriginators_hardReset (s : State) (f : Originator → OriginatorState → OriginatorState) :
    (s.onOriginators f).hardReset = s.hardReset := rfl
@[simp] theorem State.onOriginators_suspended (s : State) (f : Originator → OriginatorState → OriginatorState) :
    (s.onOriginators f).suspended = s.suspended := rfl
@[simp] theorem State.onOriginators_rx (s : State) (f : Originator → OriginatorState → OriginatorState) :
    (s.onOriginators f).rx = s.rx := rfl
@[simp] theorem State.onOriginators_ready (s : State) (f : Originator → OriginatorState → OriginatorState) :
    (s.onOriginators f).ready = s.ready := rfl
@[simp] theorem State.onOriginators_transmitting (s : State) (f : Originator → OriginatorState → OriginatorState) :
    (s.onOriginators f).transmitting = s.transmitting := rfl
@[simp] theorem State.onOriginators_staged (s : State) (f : Originator → OriginatorState → OriginatorState) :
    (s.onOriginators f).staged = s.staged := rfl
@[simp] theorem State.onOriginators_served (s : State) (f : Originator → OriginatorState → OriginatorState) :
    (s.onOriginators f).served = s.served := rfl
@[simp] theorem State.onOriginators_timebase (s : State) (f : Originator → OriginatorState → OriginatorState) :
    (s.onOriginators f).timebase = s.timebase := rfl
@[simp] theorem State.onOriginators_resetPending (s : State) (f : Originator → OriginatorState → OriginatorState) :
    (s.onOriginators f).resetPending = s.resetPending := rfl
@[simp] theorem State.onOriginators_downCells (s : State) (f : Originator → OriginatorState → OriginatorState) :
    (s.onOriginators f).downCells = s.downCells := rfl
@[simp] theorem State.onOriginators_reserve (s : State) (f : Originator → OriginatorState → OriginatorState) :
    (s.onOriginators f).reserve = s.reserve := rfl
@[simp] theorem State.onOriginators_downHeld (s : State) (f : Originator → OriginatorState → OriginatorState) :
    (s.onOriginators f).downHeld = s.downHeld := rfl
@[simp] theorem State.onOriginators_squeezed (s : State) (f : Originator → OriginatorState → OriginatorState) :
    (s.onOriginators f).squeezed = s.squeezed := rfl
@[simp] theorem State.onOriginators_classes (s : State) (f : Originator → OriginatorState → OriginatorState) :
    (s.onOriginators f).classes = s.classes := rfl
@[simp] theorem State.onOriginators_prioPointer (s : State) (f : Originator → OriginatorState → OriginatorState) :
    (s.onOriginators f).prioPointer = s.prioPointer := rfl
@[simp] theorem State.onOriginators_normPointer (s : State) (f : Originator → OriginatorState → OriginatorState) :
    (s.onOriginators f).normPointer = s.normPointer := rfl
@[simp] theorem State.onOriginators_runCount (s : State) (f : Originator → OriginatorState → OriginatorState) :
    (s.onOriginators f).runCount = s.runCount := rfl
@[simp] theorem State.onOriginators_deviceSense (s : State) (f : Originator → OriginatorState → OriginatorState) :
    (s.onOriginators f).deviceSense = s.deviceSense := rfl
@[simp] theorem State.onOriginators_lanes (s : State) (f : Originator → OriginatorState → OriginatorState) :
    (s.onOriginators f).lanes = s.lanes := rfl
@[simp] theorem State.onOriginators_pending (s : State) (f : Originator → OriginatorState → OriginatorState) :
    (s.onOriginators f).pending = s.pending := rfl
@[simp] theorem State.lane_onOriginators (s : State) (f : Originator → OriginatorState → OriginatorState) (i : LaneId) :
    (s.onOriginators f).lane i = s.lane i := rfl

/-! ### What `offerLane` leaves alone -/

@[simp] theorem State.offerLane_port (s : State) (k : EventKind) (l : LaneId) : (s.offerLane k l).port = s.port := rfl
@[simp] theorem State.offerLane_vbus (s : State) (k : EventKind) (l : LaneId) : (s.offerLane k l).vbus = s.vbus := rfl
@[simp] theorem State.offerLane_hardReset (s : State) (k : EventKind) (l : LaneId) :
    (s.offerLane k l).hardReset = s.hardReset := rfl
@[simp] theorem State.offerLane_suspended (s : State) (k : EventKind) (l : LaneId) :
    (s.offerLane k l).suspended = s.suspended := rfl
@[simp] theorem State.offerLane_rx (s : State) (k : EventKind) (l : LaneId) : (s.offerLane k l).rx = s.rx := rfl
@[simp] theorem State.offerLane_ready (s : State) (k : EventKind) (l : LaneId) :
    (s.offerLane k l).ready = s.ready := rfl
@[simp] theorem State.offerLane_transmitting (s : State) (k : EventKind) (l : LaneId) :
    (s.offerLane k l).transmitting = s.transmitting := rfl
@[simp] theorem State.offerLane_staged (s : State) (k : EventKind) (l : LaneId) :
    (s.offerLane k l).staged = s.staged := rfl
@[simp] theorem State.offerLane_served (s : State) (k : EventKind) (l : LaneId) :
    (s.offerLane k l).served = s.served := rfl
@[simp] theorem State.offerLane_timebase (s : State) (k : EventKind) (l : LaneId) :
    (s.offerLane k l).timebase = s.timebase := rfl
@[simp] theorem State.offerLane_resetPending (s : State) (k : EventKind) (l : LaneId) :
    (s.offerLane k l).resetPending = s.resetPending := rfl
@[simp] theorem State.offerLane_downCells (s : State) (k : EventKind) (l : LaneId) :
    (s.offerLane k l).downCells = s.downCells := rfl
@[simp] theorem State.offerLane_reserve (s : State) (k : EventKind) (l : LaneId) :
    (s.offerLane k l).reserve = s.reserve := rfl
@[simp] theorem State.offerLane_downHeld (s : State) (k : EventKind) (l : LaneId) :
    (s.offerLane k l).downHeld = s.downHeld := rfl
@[simp] theorem State.offerLane_squeezed (s : State) (k : EventKind) (l : LaneId) :
    (s.offerLane k l).squeezed = s.squeezed := rfl
@[simp] theorem State.offerLane_classes (s : State) (k : EventKind) (l : LaneId) :
    (s.offerLane k l).classes = s.classes := rfl
@[simp] theorem State.offerLane_prioPointer (s : State) (k : EventKind) (l : LaneId) :
    (s.offerLane k l).prioPointer = s.prioPointer := rfl
@[simp] theorem State.offerLane_normPointer (s : State) (k : EventKind) (l : LaneId) :
    (s.offerLane k l).normPointer = s.normPointer := rfl
@[simp] theorem State.offerLane_runCount (s : State) (k : EventKind) (l : LaneId) :
    (s.offerLane k l).runCount = s.runCount := rfl
@[simp] theorem State.offerLane_deviceSense (s : State) (k : EventKind) (l : LaneId) :
    (s.offerLane k l).deviceSense = s.deviceSense := rfl
@[simp] theorem State.offerLane_lanes (s : State) (k : EventKind) (l : LaneId) :
    (s.offerLane k l).lanes = s.lanes := rfl
@[simp] theorem State.offerLane_pending (s : State) (k : EventKind) (l : LaneId) :
    (s.offerLane k l).pending = s.pending := rfl
@[simp] theorem State.lane_offerLane (s : State) (k : EventKind) (l : LaneId) (i : LaneId) :
    (s.offerLane k l).lane i = s.lane i := rfl

/-! ### What `offerDevice` leaves alone -/

@[simp] theorem State.offerDevice_port (s : State) (k : EventKind) : (s.offerDevice k).port = s.port := rfl
@[simp] theorem State.offerDevice_vbus (s : State) (k : EventKind) : (s.offerDevice k).vbus = s.vbus := rfl
@[simp] theorem State.offerDevice_hardReset (s : State) (k : EventKind) :
    (s.offerDevice k).hardReset = s.hardReset := rfl
@[simp] theorem State.offerDevice_suspended (s : State) (k : EventKind) :
    (s.offerDevice k).suspended = s.suspended := rfl
@[simp] theorem State.offerDevice_rx (s : State) (k : EventKind) : (s.offerDevice k).rx = s.rx := rfl
@[simp] theorem State.offerDevice_ready (s : State) (k : EventKind) : (s.offerDevice k).ready = s.ready := rfl
@[simp] theorem State.offerDevice_transmitting (s : State) (k : EventKind) :
    (s.offerDevice k).transmitting = s.transmitting := rfl
@[simp] theorem State.offerDevice_staged (s : State) (k : EventKind) : (s.offerDevice k).staged = s.staged := rfl
@[simp] theorem State.offerDevice_served (s : State) (k : EventKind) : (s.offerDevice k).served = s.served := rfl
@[simp] theorem State.offerDevice_timebase (s : State) (k : EventKind) :
    (s.offerDevice k).timebase = s.timebase := rfl
@[simp] theorem State.offerDevice_resetPending (s : State) (k : EventKind) :
    (s.offerDevice k).resetPending = s.resetPending := rfl
@[simp] theorem State.offerDevice_downCells (s : State) (k : EventKind) :
    (s.offerDevice k).downCells = s.downCells := rfl
@[simp] theorem State.offerDevice_reserve (s : State) (k : EventKind) : (s.offerDevice k).reserve = s.reserve := rfl
@[simp] theorem State.offerDevice_downHeld (s : State) (k : EventKind) :
    (s.offerDevice k).downHeld = s.downHeld := rfl
@[simp] theorem State.offerDevice_squeezed (s : State) (k : EventKind) :
    (s.offerDevice k).squeezed = s.squeezed := rfl
@[simp] theorem State.offerDevice_classes (s : State) (k : EventKind) : (s.offerDevice k).classes = s.classes := rfl
@[simp] theorem State.offerDevice_prioPointer (s : State) (k : EventKind) :
    (s.offerDevice k).prioPointer = s.prioPointer := rfl
@[simp] theorem State.offerDevice_normPointer (s : State) (k : EventKind) :
    (s.offerDevice k).normPointer = s.normPointer := rfl
@[simp] theorem State.offerDevice_runCount (s : State) (k : EventKind) :
    (s.offerDevice k).runCount = s.runCount := rfl
@[simp] theorem State.offerDevice_deviceSense (s : State) (k : EventKind) :
    (s.offerDevice k).deviceSense = s.deviceSense := rfl
@[simp] theorem State.offerDevice_lanes (s : State) (k : EventKind) : (s.offerDevice k).lanes = s.lanes := rfl
@[simp] theorem State.offerDevice_pending (s : State) (k : EventKind) : (s.offerDevice k).pending = s.pending := rfl
@[simp] theorem State.lane_offerDevice (s : State) (k : EventKind) (i : LaneId) :
    (s.offerDevice k).lane i = s.lane i := rfl

/-! ### What `recordLane` leaves alone -/

@[simp] theorem State.recordLane_port (s : State) (c : Cond) (o : Originator) (l : LaneId) :
    (s.recordLane c o l).port = s.port := rfl
@[simp] theorem State.recordLane_vbus (s : State) (c : Cond) (o : Originator) (l : LaneId) :
    (s.recordLane c o l).vbus = s.vbus := rfl
@[simp] theorem State.recordLane_hardReset (s : State) (c : Cond) (o : Originator) (l : LaneId) :
    (s.recordLane c o l).hardReset = s.hardReset := rfl
@[simp] theorem State.recordLane_suspended (s : State) (c : Cond) (o : Originator) (l : LaneId) :
    (s.recordLane c o l).suspended = s.suspended := rfl
@[simp] theorem State.recordLane_rx (s : State) (c : Cond) (o : Originator) (l : LaneId) :
    (s.recordLane c o l).rx = s.rx := rfl
@[simp] theorem State.recordLane_ready (s : State) (c : Cond) (o : Originator) (l : LaneId) :
    (s.recordLane c o l).ready = s.ready := rfl
@[simp] theorem State.recordLane_transmitting (s : State) (c : Cond) (o : Originator) (l : LaneId) :
    (s.recordLane c o l).transmitting = s.transmitting := rfl
@[simp] theorem State.recordLane_staged (s : State) (c : Cond) (o : Originator) (l : LaneId) :
    (s.recordLane c o l).staged = s.staged := rfl
@[simp] theorem State.recordLane_originators (s : State) (c : Cond) (o : Originator) (l : LaneId) :
    (s.recordLane c o l).originators = s.originators := rfl
@[simp] theorem State.recordLane_served (s : State) (c : Cond) (o : Originator) (l : LaneId) :
    (s.recordLane c o l).served = s.served := rfl
@[simp] theorem State.recordLane_timebase (s : State) (c : Cond) (o : Originator) (l : LaneId) :
    (s.recordLane c o l).timebase = s.timebase := rfl
@[simp] theorem State.recordLane_resetPending (s : State) (c : Cond) (o : Originator) (l : LaneId) :
    (s.recordLane c o l).resetPending = s.resetPending := rfl
@[simp] theorem State.recordLane_downCells (s : State) (c : Cond) (o : Originator) (l : LaneId) :
    (s.recordLane c o l).downCells = s.downCells := rfl
@[simp] theorem State.recordLane_reserve (s : State) (c : Cond) (o : Originator) (l : LaneId) :
    (s.recordLane c o l).reserve = s.reserve := rfl
@[simp] theorem State.recordLane_downHeld (s : State) (c : Cond) (o : Originator) (l : LaneId) :
    (s.recordLane c o l).downHeld = s.downHeld := rfl
@[simp] theorem State.recordLane_squeezed (s : State) (c : Cond) (o : Originator) (l : LaneId) :
    (s.recordLane c o l).squeezed = s.squeezed := rfl
@[simp] theorem State.recordLane_classes (s : State) (c : Cond) (o : Originator) (l : LaneId) :
    (s.recordLane c o l).classes = s.classes := rfl
@[simp] theorem State.recordLane_prioPointer (s : State) (c : Cond) (o : Originator) (l : LaneId) :
    (s.recordLane c o l).prioPointer = s.prioPointer := rfl
@[simp] theorem State.recordLane_normPointer (s : State) (c : Cond) (o : Originator) (l : LaneId) :
    (s.recordLane c o l).normPointer = s.normPointer := rfl
@[simp] theorem State.recordLane_runCount (s : State) (c : Cond) (o : Originator) (l : LaneId) :
    (s.recordLane c o l).runCount = s.runCount := rfl
@[simp] theorem State.recordLane_deviceSense (s : State) (c : Cond) (o : Originator) (l : LaneId) :
    (s.recordLane c o l).deviceSense = s.deviceSense := rfl
@[simp] theorem State.recordLane_pending (s : State) (c : Cond) (o : Originator) (l : LaneId) :
    (s.recordLane c o l).pending = s.pending := rfl
@[simp] theorem State.orig_recordLane (s : State) (c : Cond) (o : Originator) (l : LaneId) (p : Originator) :
    (s.recordLane c o l).orig p = s.orig p := rfl

/-! ### What `recordDevice` leaves alone -/

@[simp] theorem State.recordDevice_port (s : State) (c : Cond) (o : Originator) :
    (s.recordDevice c o).port = s.port := rfl
@[simp] theorem State.recordDevice_vbus (s : State) (c : Cond) (o : Originator) :
    (s.recordDevice c o).vbus = s.vbus := rfl
@[simp] theorem State.recordDevice_hardReset (s : State) (c : Cond) (o : Originator) :
    (s.recordDevice c o).hardReset = s.hardReset := rfl
@[simp] theorem State.recordDevice_suspended (s : State) (c : Cond) (o : Originator) :
    (s.recordDevice c o).suspended = s.suspended := rfl
@[simp] theorem State.recordDevice_rx (s : State) (c : Cond) (o : Originator) : (s.recordDevice c o).rx = s.rx := rfl
@[simp] theorem State.recordDevice_ready (s : State) (c : Cond) (o : Originator) :
    (s.recordDevice c o).ready = s.ready := rfl
@[simp] theorem State.recordDevice_transmitting (s : State) (c : Cond) (o : Originator) :
    (s.recordDevice c o).transmitting = s.transmitting := rfl
@[simp] theorem State.recordDevice_staged (s : State) (c : Cond) (o : Originator) :
    (s.recordDevice c o).staged = s.staged := rfl
@[simp] theorem State.recordDevice_originators (s : State) (c : Cond) (o : Originator) :
    (s.recordDevice c o).originators = s.originators := rfl
@[simp] theorem State.recordDevice_served (s : State) (c : Cond) (o : Originator) :
    (s.recordDevice c o).served = s.served := rfl
@[simp] theorem State.recordDevice_timebase (s : State) (c : Cond) (o : Originator) :
    (s.recordDevice c o).timebase = s.timebase := rfl
@[simp] theorem State.recordDevice_resetPending (s : State) (c : Cond) (o : Originator) :
    (s.recordDevice c o).resetPending = s.resetPending := rfl
@[simp] theorem State.recordDevice_downCells (s : State) (c : Cond) (o : Originator) :
    (s.recordDevice c o).downCells = s.downCells := rfl
@[simp] theorem State.recordDevice_reserve (s : State) (c : Cond) (o : Originator) :
    (s.recordDevice c o).reserve = s.reserve := rfl
@[simp] theorem State.recordDevice_downHeld (s : State) (c : Cond) (o : Originator) :
    (s.recordDevice c o).downHeld = s.downHeld := rfl
@[simp] theorem State.recordDevice_squeezed (s : State) (c : Cond) (o : Originator) :
    (s.recordDevice c o).squeezed = s.squeezed := rfl
@[simp] theorem State.recordDevice_classes (s : State) (c : Cond) (o : Originator) :
    (s.recordDevice c o).classes = s.classes := rfl
@[simp] theorem State.recordDevice_prioPointer (s : State) (c : Cond) (o : Originator) :
    (s.recordDevice c o).prioPointer = s.prioPointer := rfl
@[simp] theorem State.recordDevice_normPointer (s : State) (c : Cond) (o : Originator) :
    (s.recordDevice c o).normPointer = s.normPointer := rfl
@[simp] theorem State.recordDevice_runCount (s : State) (c : Cond) (o : Originator) :
    (s.recordDevice c o).runCount = s.runCount := rfl
@[simp] theorem State.recordDevice_lanes (s : State) (c : Cond) (o : Originator) :
    (s.recordDevice c o).lanes = s.lanes := rfl
@[simp] theorem State.recordDevice_pending (s : State) (c : Cond) (o : Originator) :
    (s.recordDevice c o).pending = s.pending := rfl
@[simp] theorem State.lane_recordDevice (s : State) (c : Cond) (o : Originator) (i : LaneId) :
    (s.recordDevice c o).lane i = s.lane i := rfl
@[simp] theorem State.orig_recordDevice (s : State) (c : Cond) (o : Originator) (p : Originator) :
    (s.recordDevice c o).orig p = s.orig p := rfl

/-! ### What `setAttention` leaves alone -/

@[simp] theorem State.setAttention_port (s : State) (cause : BitVec 8) (l : LaneId) :
    (s.setAttention cause l).port = s.port := rfl
@[simp] theorem State.setAttention_vbus (s : State) (cause : BitVec 8) (l : LaneId) :
    (s.setAttention cause l).vbus = s.vbus := rfl
@[simp] theorem State.setAttention_hardReset (s : State) (cause : BitVec 8) (l : LaneId) :
    (s.setAttention cause l).hardReset = s.hardReset := rfl
@[simp] theorem State.setAttention_suspended (s : State) (cause : BitVec 8) (l : LaneId) :
    (s.setAttention cause l).suspended = s.suspended := rfl
@[simp] theorem State.setAttention_rx (s : State) (cause : BitVec 8) (l : LaneId) :
    (s.setAttention cause l).rx = s.rx := rfl
@[simp] theorem State.setAttention_ready (s : State) (cause : BitVec 8) (l : LaneId) :
    (s.setAttention cause l).ready = s.ready := rfl
@[simp] theorem State.setAttention_transmitting (s : State) (cause : BitVec 8) (l : LaneId) :
    (s.setAttention cause l).transmitting = s.transmitting := rfl
@[simp] theorem State.setAttention_staged (s : State) (cause : BitVec 8) (l : LaneId) :
    (s.setAttention cause l).staged = s.staged := rfl
@[simp] theorem State.setAttention_originators (s : State) (cause : BitVec 8) (l : LaneId) :
    (s.setAttention cause l).originators = s.originators := rfl
@[simp] theorem State.setAttention_served (s : State) (cause : BitVec 8) (l : LaneId) :
    (s.setAttention cause l).served = s.served := rfl
@[simp] theorem State.setAttention_timebase (s : State) (cause : BitVec 8) (l : LaneId) :
    (s.setAttention cause l).timebase = s.timebase := rfl
@[simp] theorem State.setAttention_resetPending (s : State) (cause : BitVec 8) (l : LaneId) :
    (s.setAttention cause l).resetPending = s.resetPending := rfl
@[simp] theorem State.setAttention_downCells (s : State) (cause : BitVec 8) (l : LaneId) :
    (s.setAttention cause l).downCells = s.downCells := rfl
@[simp] theorem State.setAttention_reserve (s : State) (cause : BitVec 8) (l : LaneId) :
    (s.setAttention cause l).reserve = s.reserve := rfl
@[simp] theorem State.setAttention_downHeld (s : State) (cause : BitVec 8) (l : LaneId) :
    (s.setAttention cause l).downHeld = s.downHeld := rfl
@[simp] theorem State.setAttention_squeezed (s : State) (cause : BitVec 8) (l : LaneId) :
    (s.setAttention cause l).squeezed = s.squeezed := rfl
@[simp] theorem State.setAttention_classes (s : State) (cause : BitVec 8) (l : LaneId) :
    (s.setAttention cause l).classes = s.classes := rfl
@[simp] theorem State.setAttention_prioPointer (s : State) (cause : BitVec 8) (l : LaneId) :
    (s.setAttention cause l).prioPointer = s.prioPointer := rfl
@[simp] theorem State.setAttention_normPointer (s : State) (cause : BitVec 8) (l : LaneId) :
    (s.setAttention cause l).normPointer = s.normPointer := rfl
@[simp] theorem State.setAttention_runCount (s : State) (cause : BitVec 8) (l : LaneId) :
    (s.setAttention cause l).runCount = s.runCount := rfl
@[simp] theorem State.setAttention_deviceSense (s : State) (cause : BitVec 8) (l : LaneId) :
    (s.setAttention cause l).deviceSense = s.deviceSense := rfl
@[simp] theorem State.setAttention_pending (s : State) (cause : BitVec 8) (l : LaneId) :
    (s.setAttention cause l).pending = s.pending := rfl
@[simp] theorem State.orig_setAttention (s : State) (cause : BitVec 8) (l : LaneId) (p : Originator) :
    (s.setAttention cause l).orig p = s.orig p := rfl

/-! ### What `clearCondition` leaves alone -/

@[simp] theorem State.clearCondition_port (s : State) (o : Originator) (l : LaneId) :
    (s.clearCondition o l).port = s.port := rfl
@[simp] theorem State.clearCondition_vbus (s : State) (o : Originator) (l : LaneId) :
    (s.clearCondition o l).vbus = s.vbus := rfl
@[simp] theorem State.clearCondition_hardReset (s : State) (o : Originator) (l : LaneId) :
    (s.clearCondition o l).hardReset = s.hardReset := rfl
@[simp] theorem State.clearCondition_suspended (s : State) (o : Originator) (l : LaneId) :
    (s.clearCondition o l).suspended = s.suspended := rfl
@[simp] theorem State.clearCondition_rx (s : State) (o : Originator) (l : LaneId) :
    (s.clearCondition o l).rx = s.rx := rfl
@[simp] theorem State.clearCondition_ready (s : State) (o : Originator) (l : LaneId) :
    (s.clearCondition o l).ready = s.ready := rfl
@[simp] theorem State.clearCondition_transmitting (s : State) (o : Originator) (l : LaneId) :
    (s.clearCondition o l).transmitting = s.transmitting := rfl
@[simp] theorem State.clearCondition_staged (s : State) (o : Originator) (l : LaneId) :
    (s.clearCondition o l).staged = s.staged := rfl
@[simp] theorem State.clearCondition_originators (s : State) (o : Originator) (l : LaneId) :
    (s.clearCondition o l).originators = s.originators := rfl
@[simp] theorem State.clearCondition_served (s : State) (o : Originator) (l : LaneId) :
    (s.clearCondition o l).served = s.served := rfl
@[simp] theorem State.clearCondition_timebase (s : State) (o : Originator) (l : LaneId) :
    (s.clearCondition o l).timebase = s.timebase := rfl
@[simp] theorem State.clearCondition_resetPending (s : State) (o : Originator) (l : LaneId) :
    (s.clearCondition o l).resetPending = s.resetPending := rfl
@[simp] theorem State.clearCondition_downCells (s : State) (o : Originator) (l : LaneId) :
    (s.clearCondition o l).downCells = s.downCells := rfl
@[simp] theorem State.clearCondition_reserve (s : State) (o : Originator) (l : LaneId) :
    (s.clearCondition o l).reserve = s.reserve := rfl
@[simp] theorem State.clearCondition_downHeld (s : State) (o : Originator) (l : LaneId) :
    (s.clearCondition o l).downHeld = s.downHeld := rfl
@[simp] theorem State.clearCondition_squeezed (s : State) (o : Originator) (l : LaneId) :
    (s.clearCondition o l).squeezed = s.squeezed := rfl
@[simp] theorem State.clearCondition_classes (s : State) (o : Originator) (l : LaneId) :
    (s.clearCondition o l).classes = s.classes := rfl
@[simp] theorem State.clearCondition_prioPointer (s : State) (o : Originator) (l : LaneId) :
    (s.clearCondition o l).prioPointer = s.prioPointer := rfl
@[simp] theorem State.clearCondition_normPointer (s : State) (o : Originator) (l : LaneId) :
    (s.clearCondition o l).normPointer = s.normPointer := rfl
@[simp] theorem State.clearCondition_runCount (s : State) (o : Originator) (l : LaneId) :
    (s.clearCondition o l).runCount = s.runCount := rfl
@[simp] theorem State.clearCondition_deviceSense (s : State) (o : Originator) (l : LaneId) :
    (s.clearCondition o l).deviceSense = s.deviceSense := rfl
@[simp] theorem State.clearCondition_pending (s : State) (o : Originator) (l : LaneId) :
    (s.clearCondition o l).pending = s.pending := rfl
@[simp] theorem State.orig_clearCondition (s : State) (o : Originator) (l : LaneId) (p : Originator) :
    (s.clearCondition o l).orig p = s.orig p := rfl

/-! ### What `clearAttention` leaves alone -/

@[simp] theorem State.clearAttention_port (s : State) (o : Originator) (l : LaneId) :
    (s.clearAttention o l).port = s.port := rfl
@[simp] theorem State.clearAttention_vbus (s : State) (o : Originator) (l : LaneId) :
    (s.clearAttention o l).vbus = s.vbus := rfl
@[simp] theorem State.clearAttention_hardReset (s : State) (o : Originator) (l : LaneId) :
    (s.clearAttention o l).hardReset = s.hardReset := rfl
@[simp] theorem State.clearAttention_suspended (s : State) (o : Originator) (l : LaneId) :
    (s.clearAttention o l).suspended = s.suspended := rfl
@[simp] theorem State.clearAttention_rx (s : State) (o : Originator) (l : LaneId) :
    (s.clearAttention o l).rx = s.rx := rfl
@[simp] theorem State.clearAttention_ready (s : State) (o : Originator) (l : LaneId) :
    (s.clearAttention o l).ready = s.ready := rfl
@[simp] theorem State.clearAttention_transmitting (s : State) (o : Originator) (l : LaneId) :
    (s.clearAttention o l).transmitting = s.transmitting := rfl
@[simp] theorem State.clearAttention_staged (s : State) (o : Originator) (l : LaneId) :
    (s.clearAttention o l).staged = s.staged := rfl
@[simp] theorem State.clearAttention_originators (s : State) (o : Originator) (l : LaneId) :
    (s.clearAttention o l).originators = s.originators := rfl
@[simp] theorem State.clearAttention_served (s : State) (o : Originator) (l : LaneId) :
    (s.clearAttention o l).served = s.served := rfl
@[simp] theorem State.clearAttention_timebase (s : State) (o : Originator) (l : LaneId) :
    (s.clearAttention o l).timebase = s.timebase := rfl
@[simp] theorem State.clearAttention_resetPending (s : State) (o : Originator) (l : LaneId) :
    (s.clearAttention o l).resetPending = s.resetPending := rfl
@[simp] theorem State.clearAttention_downCells (s : State) (o : Originator) (l : LaneId) :
    (s.clearAttention o l).downCells = s.downCells := rfl
@[simp] theorem State.clearAttention_reserve (s : State) (o : Originator) (l : LaneId) :
    (s.clearAttention o l).reserve = s.reserve := rfl
@[simp] theorem State.clearAttention_downHeld (s : State) (o : Originator) (l : LaneId) :
    (s.clearAttention o l).downHeld = s.downHeld := rfl
@[simp] theorem State.clearAttention_squeezed (s : State) (o : Originator) (l : LaneId) :
    (s.clearAttention o l).squeezed = s.squeezed := rfl
@[simp] theorem State.clearAttention_classes (s : State) (o : Originator) (l : LaneId) :
    (s.clearAttention o l).classes = s.classes := rfl
@[simp] theorem State.clearAttention_prioPointer (s : State) (o : Originator) (l : LaneId) :
    (s.clearAttention o l).prioPointer = s.prioPointer := rfl
@[simp] theorem State.clearAttention_normPointer (s : State) (o : Originator) (l : LaneId) :
    (s.clearAttention o l).normPointer = s.normPointer := rfl
@[simp] theorem State.clearAttention_runCount (s : State) (o : Originator) (l : LaneId) :
    (s.clearAttention o l).runCount = s.runCount := rfl
@[simp] theorem State.clearAttention_deviceSense (s : State) (o : Originator) (l : LaneId) :
    (s.clearAttention o l).deviceSense = s.deviceSense := rfl
@[simp] theorem State.clearAttention_pending (s : State) (o : Originator) (l : LaneId) :
    (s.clearAttention o l).pending = s.pending := rfl
@[simp] theorem State.orig_clearAttention (s : State) (o : Originator) (l : LaneId) (p : Originator) :
    (s.clearAttention o l).orig p = s.orig p := rfl

/-! ### What `setRx` leaves alone -/

@[simp] theorem State.setRx_port (s : State) (x : Rx) : (s.setRx x).port = s.port := rfl
@[simp] theorem State.setRx_vbus (s : State) (x : Rx) : (s.setRx x).vbus = s.vbus := rfl
@[simp] theorem State.setRx_hardReset (s : State) (x : Rx) : (s.setRx x).hardReset = s.hardReset := rfl
@[simp] theorem State.setRx_suspended (s : State) (x : Rx) : (s.setRx x).suspended = s.suspended := rfl
@[simp] theorem State.setRx_ready (s : State) (x : Rx) : (s.setRx x).ready = s.ready := rfl
@[simp] theorem State.setRx_transmitting (s : State) (x : Rx) : (s.setRx x).transmitting = s.transmitting := rfl
@[simp] theorem State.setRx_staged (s : State) (x : Rx) : (s.setRx x).staged = s.staged := rfl
@[simp] theorem State.setRx_originators (s : State) (x : Rx) : (s.setRx x).originators = s.originators := rfl
@[simp] theorem State.setRx_served (s : State) (x : Rx) : (s.setRx x).served = s.served := rfl
@[simp] theorem State.setRx_timebase (s : State) (x : Rx) : (s.setRx x).timebase = s.timebase := rfl
@[simp] theorem State.setRx_resetPending (s : State) (x : Rx) : (s.setRx x).resetPending = s.resetPending := rfl
@[simp] theorem State.setRx_downCells (s : State) (x : Rx) : (s.setRx x).downCells = s.downCells := rfl
@[simp] theorem State.setRx_reserve (s : State) (x : Rx) : (s.setRx x).reserve = s.reserve := rfl
@[simp] theorem State.setRx_downHeld (s : State) (x : Rx) : (s.setRx x).downHeld = s.downHeld := rfl
@[simp] theorem State.setRx_squeezed (s : State) (x : Rx) : (s.setRx x).squeezed = s.squeezed := rfl
@[simp] theorem State.setRx_classes (s : State) (x : Rx) : (s.setRx x).classes = s.classes := rfl
@[simp] theorem State.setRx_prioPointer (s : State) (x : Rx) : (s.setRx x).prioPointer = s.prioPointer := rfl
@[simp] theorem State.setRx_normPointer (s : State) (x : Rx) : (s.setRx x).normPointer = s.normPointer := rfl
@[simp] theorem State.setRx_runCount (s : State) (x : Rx) : (s.setRx x).runCount = s.runCount := rfl
@[simp] theorem State.setRx_deviceSense (s : State) (x : Rx) : (s.setRx x).deviceSense = s.deviceSense := rfl
@[simp] theorem State.setRx_lanes (s : State) (x : Rx) : (s.setRx x).lanes = s.lanes := rfl
@[simp] theorem State.setRx_pending (s : State) (x : Rx) : (s.setRx x).pending = s.pending := rfl
@[simp] theorem State.lane_setRx (s : State) (x : Rx) (i : LaneId) :
    (s.setRx x).lane i = s.lane i := rfl
@[simp] theorem State.orig_setRx (s : State) (x : Rx) (p : Originator) :
    (s.setRx x).orig p = s.orig p := rfl

/-! ### What `pushReply` leaves alone -/

@[simp] theorem State.pushReply_port (s : State) (r : Reply) : (s.pushReply r).port = s.port := rfl
@[simp] theorem State.pushReply_vbus (s : State) (r : Reply) : (s.pushReply r).vbus = s.vbus := rfl
@[simp] theorem State.pushReply_hardReset (s : State) (r : Reply) : (s.pushReply r).hardReset = s.hardReset := rfl
@[simp] theorem State.pushReply_suspended (s : State) (r : Reply) : (s.pushReply r).suspended = s.suspended := rfl
@[simp] theorem State.pushReply_rx (s : State) (r : Reply) : (s.pushReply r).rx = s.rx := rfl
@[simp] theorem State.pushReply_transmitting (s : State) (r : Reply) :
    (s.pushReply r).transmitting = s.transmitting := rfl
@[simp] theorem State.pushReply_staged (s : State) (r : Reply) : (s.pushReply r).staged = s.staged := rfl
@[simp] theorem State.pushReply_originators (s : State) (r : Reply) :
    (s.pushReply r).originators = s.originators := rfl
@[simp] theorem State.pushReply_served (s : State) (r : Reply) : (s.pushReply r).served = s.served := rfl
@[simp] theorem State.pushReply_timebase (s : State) (r : Reply) : (s.pushReply r).timebase = s.timebase := rfl
@[simp] theorem State.pushReply_resetPending (s : State) (r : Reply) :
    (s.pushReply r).resetPending = s.resetPending := rfl
@[simp] theorem State.pushReply_downCells (s : State) (r : Reply) : (s.pushReply r).downCells = s.downCells := rfl
@[simp] theorem State.pushReply_reserve (s : State) (r : Reply) : (s.pushReply r).reserve = s.reserve := rfl
@[simp] theorem State.pushReply_downHeld (s : State) (r : Reply) : (s.pushReply r).downHeld = s.downHeld := rfl
@[simp] theorem State.pushReply_squeezed (s : State) (r : Reply) : (s.pushReply r).squeezed = s.squeezed := rfl
@[simp] theorem State.pushReply_classes (s : State) (r : Reply) : (s.pushReply r).classes = s.classes := rfl
@[simp] theorem State.pushReply_prioPointer (s : State) (r : Reply) :
    (s.pushReply r).prioPointer = s.prioPointer := rfl
@[simp] theorem State.pushReply_normPointer (s : State) (r : Reply) :
    (s.pushReply r).normPointer = s.normPointer := rfl
@[simp] theorem State.pushReply_runCount (s : State) (r : Reply) : (s.pushReply r).runCount = s.runCount := rfl
@[simp] theorem State.pushReply_deviceSense (s : State) (r : Reply) :
    (s.pushReply r).deviceSense = s.deviceSense := rfl
@[simp] theorem State.pushReply_lanes (s : State) (r : Reply) : (s.pushReply r).lanes = s.lanes := rfl
@[simp] theorem State.pushReply_pending (s : State) (r : Reply) : (s.pushReply r).pending = s.pending := rfl
@[simp] theorem State.lane_pushReply (s : State) (r : Reply) (i : LaneId) :
    (s.pushReply r).lane i = s.lane i := rfl
@[simp] theorem State.orig_pushReply (s : State) (r : Reply) (p : Originator) :
    (s.pushReply r).orig p = s.orig p := rfl

/-! ### What `takeDown` leaves alone -/

@[simp] theorem State.takeDown_port (s : State) (n : Nat) : (s.takeDown n).port = s.port := rfl
@[simp] theorem State.takeDown_vbus (s : State) (n : Nat) : (s.takeDown n).vbus = s.vbus := rfl
@[simp] theorem State.takeDown_hardReset (s : State) (n : Nat) : (s.takeDown n).hardReset = s.hardReset := rfl
@[simp] theorem State.takeDown_suspended (s : State) (n : Nat) : (s.takeDown n).suspended = s.suspended := rfl
@[simp] theorem State.takeDown_rx (s : State) (n : Nat) : (s.takeDown n).rx = s.rx := rfl
@[simp] theorem State.takeDown_ready (s : State) (n : Nat) : (s.takeDown n).ready = s.ready := rfl
@[simp] theorem State.takeDown_transmitting (s : State) (n : Nat) :
    (s.takeDown n).transmitting = s.transmitting := rfl
@[simp] theorem State.takeDown_staged (s : State) (n : Nat) : (s.takeDown n).staged = s.staged := rfl
@[simp] theorem State.takeDown_originators (s : State) (n : Nat) : (s.takeDown n).originators = s.originators := rfl
@[simp] theorem State.takeDown_served (s : State) (n : Nat) : (s.takeDown n).served = s.served := rfl
@[simp] theorem State.takeDown_timebase (s : State) (n : Nat) : (s.takeDown n).timebase = s.timebase := rfl
@[simp] theorem State.takeDown_resetPending (s : State) (n : Nat) :
    (s.takeDown n).resetPending = s.resetPending := rfl
@[simp] theorem State.takeDown_downCells (s : State) (n : Nat) : (s.takeDown n).downCells = s.downCells := rfl
@[simp] theorem State.takeDown_reserve (s : State) (n : Nat) : (s.takeDown n).reserve = s.reserve := rfl
@[simp] theorem State.takeDown_squeezed (s : State) (n : Nat) : (s.takeDown n).squeezed = s.squeezed := rfl
@[simp] theorem State.takeDown_classes (s : State) (n : Nat) : (s.takeDown n).classes = s.classes := rfl
@[simp] theorem State.takeDown_prioPointer (s : State) (n : Nat) : (s.takeDown n).prioPointer = s.prioPointer := rfl
@[simp] theorem State.takeDown_normPointer (s : State) (n : Nat) : (s.takeDown n).normPointer = s.normPointer := rfl
@[simp] theorem State.takeDown_runCount (s : State) (n : Nat) : (s.takeDown n).runCount = s.runCount := rfl
@[simp] theorem State.takeDown_deviceSense (s : State) (n : Nat) : (s.takeDown n).deviceSense = s.deviceSense := rfl
@[simp] theorem State.takeDown_lanes (s : State) (n : Nat) : (s.takeDown n).lanes = s.lanes := rfl
@[simp] theorem State.takeDown_pending (s : State) (n : Nat) : (s.takeDown n).pending = s.pending := rfl
@[simp] theorem State.lane_takeDown (s : State) (n : Nat) (i : LaneId) :
    (s.takeDown n).lane i = s.lane i := rfl
@[simp] theorem State.orig_takeDown (s : State) (n : Nat) (p : Originator) :
    (s.takeDown n).orig p = s.orig p := rfl

/-! ### What `releaseDown` leaves alone -/

@[simp] theorem State.releaseDown_port (s : State) (n : Nat) : (s.releaseDown n).port = s.port := rfl
@[simp] theorem State.releaseDown_vbus (s : State) (n : Nat) : (s.releaseDown n).vbus = s.vbus := rfl
@[simp] theorem State.releaseDown_hardReset (s : State) (n : Nat) : (s.releaseDown n).hardReset = s.hardReset := rfl
@[simp] theorem State.releaseDown_suspended (s : State) (n : Nat) : (s.releaseDown n).suspended = s.suspended := rfl
@[simp] theorem State.releaseDown_rx (s : State) (n : Nat) : (s.releaseDown n).rx = s.rx := rfl
@[simp] theorem State.releaseDown_ready (s : State) (n : Nat) : (s.releaseDown n).ready = s.ready := rfl
@[simp] theorem State.releaseDown_transmitting (s : State) (n : Nat) :
    (s.releaseDown n).transmitting = s.transmitting := rfl
@[simp] theorem State.releaseDown_staged (s : State) (n : Nat) : (s.releaseDown n).staged = s.staged := rfl
@[simp] theorem State.releaseDown_originators (s : State) (n : Nat) :
    (s.releaseDown n).originators = s.originators := rfl
@[simp] theorem State.releaseDown_served (s : State) (n : Nat) : (s.releaseDown n).served = s.served := rfl
@[simp] theorem State.releaseDown_timebase (s : State) (n : Nat) : (s.releaseDown n).timebase = s.timebase := rfl
@[simp] theorem State.releaseDown_resetPending (s : State) (n : Nat) :
    (s.releaseDown n).resetPending = s.resetPending := rfl
@[simp] theorem State.releaseDown_downCells (s : State) (n : Nat) : (s.releaseDown n).downCells = s.downCells := rfl
@[simp] theorem State.releaseDown_reserve (s : State) (n : Nat) : (s.releaseDown n).reserve = s.reserve := rfl
@[simp] theorem State.releaseDown_squeezed (s : State) (n : Nat) : (s.releaseDown n).squeezed = s.squeezed := rfl
@[simp] theorem State.releaseDown_classes (s : State) (n : Nat) : (s.releaseDown n).classes = s.classes := rfl
@[simp] theorem State.releaseDown_prioPointer (s : State) (n : Nat) :
    (s.releaseDown n).prioPointer = s.prioPointer := rfl
@[simp] theorem State.releaseDown_normPointer (s : State) (n : Nat) :
    (s.releaseDown n).normPointer = s.normPointer := rfl
@[simp] theorem State.releaseDown_runCount (s : State) (n : Nat) : (s.releaseDown n).runCount = s.runCount := rfl
@[simp] theorem State.releaseDown_deviceSense (s : State) (n : Nat) :
    (s.releaseDown n).deviceSense = s.deviceSense := rfl
@[simp] theorem State.releaseDown_lanes (s : State) (n : Nat) : (s.releaseDown n).lanes = s.lanes := rfl
@[simp] theorem State.releaseDown_pending (s : State) (n : Nat) : (s.releaseDown n).pending = s.pending := rfl
@[simp] theorem State.lane_releaseDown (s : State) (n : Nat) (i : LaneId) :
    (s.releaseDown n).lane i = s.lane i := rfl
@[simp] theorem State.orig_releaseDown (s : State) (n : Nat) (p : Originator) :
    (s.releaseDown n).orig p = s.orig p := rfl

/-! ### What `advance` leaves alone -/

@[simp] theorem State.advance_port (s : State) (d : Nat) : (s.advance d).port = s.port := rfl
@[simp] theorem State.advance_vbus (s : State) (d : Nat) : (s.advance d).vbus = s.vbus := rfl
@[simp] theorem State.advance_hardReset (s : State) (d : Nat) : (s.advance d).hardReset = s.hardReset := rfl
@[simp] theorem State.advance_suspended (s : State) (d : Nat) : (s.advance d).suspended = s.suspended := rfl
@[simp] theorem State.advance_rx (s : State) (d : Nat) : (s.advance d).rx = s.rx := rfl
@[simp] theorem State.advance_ready (s : State) (d : Nat) : (s.advance d).ready = s.ready := rfl
@[simp] theorem State.advance_transmitting (s : State) (d : Nat) : (s.advance d).transmitting = s.transmitting := rfl
@[simp] theorem State.advance_staged (s : State) (d : Nat) : (s.advance d).staged = s.staged := rfl
@[simp] theorem State.advance_served (s : State) (d : Nat) : (s.advance d).served = s.served := rfl
@[simp] theorem State.advance_resetPending (s : State) (d : Nat) : (s.advance d).resetPending = s.resetPending := rfl
@[simp] theorem State.advance_downCells (s : State) (d : Nat) : (s.advance d).downCells = s.downCells := rfl
@[simp] theorem State.advance_reserve (s : State) (d : Nat) : (s.advance d).reserve = s.reserve := rfl
@[simp] theorem State.advance_downHeld (s : State) (d : Nat) : (s.advance d).downHeld = s.downHeld := rfl
@[simp] theorem State.advance_squeezed (s : State) (d : Nat) : (s.advance d).squeezed = s.squeezed := rfl
@[simp] theorem State.advance_classes (s : State) (d : Nat) : (s.advance d).classes = s.classes := rfl
@[simp] theorem State.advance_prioPointer (s : State) (d : Nat) : (s.advance d).prioPointer = s.prioPointer := rfl
@[simp] theorem State.advance_normPointer (s : State) (d : Nat) : (s.advance d).normPointer = s.normPointer := rfl
@[simp] theorem State.advance_runCount (s : State) (d : Nat) : (s.advance d).runCount = s.runCount := rfl
@[simp] theorem State.advance_deviceSense (s : State) (d : Nat) : (s.advance d).deviceSense = s.deviceSense := rfl
@[simp] theorem State.advance_pending (s : State) (d : Nat) : (s.advance d).pending = s.pending := rfl

/-! ### What `tookOut` leaves alone -/

@[simp] theorem State.tookOut_port (s : State) (l : LaneId) : (s.tookOut l).port = s.port := rfl
@[simp] theorem State.tookOut_vbus (s : State) (l : LaneId) : (s.tookOut l).vbus = s.vbus := rfl
@[simp] theorem State.tookOut_hardReset (s : State) (l : LaneId) : (s.tookOut l).hardReset = s.hardReset := rfl
@[simp] theorem State.tookOut_suspended (s : State) (l : LaneId) : (s.tookOut l).suspended = s.suspended := rfl
@[simp] theorem State.tookOut_rx (s : State) (l : LaneId) : (s.tookOut l).rx = s.rx := rfl
@[simp] theorem State.tookOut_ready (s : State) (l : LaneId) : (s.tookOut l).ready = s.ready := rfl
@[simp] theorem State.tookOut_transmitting (s : State) (l : LaneId) :
    (s.tookOut l).transmitting = s.transmitting := rfl
@[simp] theorem State.tookOut_staged (s : State) (l : LaneId) : (s.tookOut l).staged = s.staged := rfl
@[simp] theorem State.tookOut_originators (s : State) (l : LaneId) : (s.tookOut l).originators = s.originators := rfl
@[simp] theorem State.tookOut_served (s : State) (l : LaneId) : (s.tookOut l).served = s.served := rfl
@[simp] theorem State.tookOut_timebase (s : State) (l : LaneId) : (s.tookOut l).timebase = s.timebase := rfl
@[simp] theorem State.tookOut_resetPending (s : State) (l : LaneId) :
    (s.tookOut l).resetPending = s.resetPending := rfl
@[simp] theorem State.tookOut_downCells (s : State) (l : LaneId) : (s.tookOut l).downCells = s.downCells := rfl
@[simp] theorem State.tookOut_reserve (s : State) (l : LaneId) : (s.tookOut l).reserve = s.reserve := rfl
@[simp] theorem State.tookOut_downHeld (s : State) (l : LaneId) : (s.tookOut l).downHeld = s.downHeld := rfl
@[simp] theorem State.tookOut_squeezed (s : State) (l : LaneId) : (s.tookOut l).squeezed = s.squeezed := rfl
@[simp] theorem State.tookOut_classes (s : State) (l : LaneId) : (s.tookOut l).classes = s.classes := rfl
@[simp] theorem State.tookOut_prioPointer (s : State) (l : LaneId) : (s.tookOut l).prioPointer = s.prioPointer := rfl
@[simp] theorem State.tookOut_normPointer (s : State) (l : LaneId) : (s.tookOut l).normPointer = s.normPointer := rfl
@[simp] theorem State.tookOut_runCount (s : State) (l : LaneId) : (s.tookOut l).runCount = s.runCount := rfl
@[simp] theorem State.tookOut_deviceSense (s : State) (l : LaneId) : (s.tookOut l).deviceSense = s.deviceSense := rfl
@[simp] theorem State.tookOut_pending (s : State) (l : LaneId) : (s.tookOut l).pending = s.pending := rfl
@[simp] theorem State.orig_tookOut (s : State) (l : LaneId) (p : Originator) :
    (s.tookOut l).orig p = s.orig p := rfl

/-! ### What `tookIn` leaves alone -/

@[simp] theorem State.tookIn_port (s : State) (l : LaneId) : (s.tookIn l).port = s.port := rfl
@[simp] theorem State.tookIn_vbus (s : State) (l : LaneId) : (s.tookIn l).vbus = s.vbus := rfl
@[simp] theorem State.tookIn_hardReset (s : State) (l : LaneId) : (s.tookIn l).hardReset = s.hardReset := rfl
@[simp] theorem State.tookIn_suspended (s : State) (l : LaneId) : (s.tookIn l).suspended = s.suspended := rfl
@[simp] theorem State.tookIn_rx (s : State) (l : LaneId) : (s.tookIn l).rx = s.rx := rfl
@[simp] theorem State.tookIn_ready (s : State) (l : LaneId) : (s.tookIn l).ready = s.ready := rfl
@[simp] theorem State.tookIn_transmitting (s : State) (l : LaneId) : (s.tookIn l).transmitting = s.transmitting := rfl
@[simp] theorem State.tookIn_staged (s : State) (l : LaneId) : (s.tookIn l).staged = s.staged := rfl
@[simp] theorem State.tookIn_originators (s : State) (l : LaneId) : (s.tookIn l).originators = s.originators := rfl
@[simp] theorem State.tookIn_served (s : State) (l : LaneId) : (s.tookIn l).served = s.served := rfl
@[simp] theorem State.tookIn_timebase (s : State) (l : LaneId) : (s.tookIn l).timebase = s.timebase := rfl
@[simp] theorem State.tookIn_resetPending (s : State) (l : LaneId) : (s.tookIn l).resetPending = s.resetPending := rfl
@[simp] theorem State.tookIn_downCells (s : State) (l : LaneId) : (s.tookIn l).downCells = s.downCells := rfl
@[simp] theorem State.tookIn_reserve (s : State) (l : LaneId) : (s.tookIn l).reserve = s.reserve := rfl
@[simp] theorem State.tookIn_downHeld (s : State) (l : LaneId) : (s.tookIn l).downHeld = s.downHeld := rfl
@[simp] theorem State.tookIn_squeezed (s : State) (l : LaneId) : (s.tookIn l).squeezed = s.squeezed := rfl
@[simp] theorem State.tookIn_classes (s : State) (l : LaneId) : (s.tookIn l).classes = s.classes := rfl
@[simp] theorem State.tookIn_prioPointer (s : State) (l : LaneId) : (s.tookIn l).prioPointer = s.prioPointer := rfl
@[simp] theorem State.tookIn_normPointer (s : State) (l : LaneId) : (s.tookIn l).normPointer = s.normPointer := rfl
@[simp] theorem State.tookIn_runCount (s : State) (l : LaneId) : (s.tookIn l).runCount = s.runCount := rfl
@[simp] theorem State.tookIn_deviceSense (s : State) (l : LaneId) : (s.tookIn l).deviceSense = s.deviceSense := rfl
@[simp] theorem State.tookIn_pending (s : State) (l : LaneId) : (s.tookIn l).pending = s.pending := rfl
@[simp] theorem State.orig_tookIn (s : State) (l : LaneId) (p : Originator) :
    (s.tookIn l).orig p = s.orig p := rfl

@[simp] theorem State.setRx_rx (s : State) (x : Rx) : (s.setRx x).rx = x := rfl
@[simp] theorem State.setRx_setRx (s : State) (x y : Rx) : (s.setRx x).setRx y = s.setRx y := rfl
@[simp] theorem State.setRx_self (s : State) : s.setRx s.rx = s := rfl
@[simp] theorem State.setRx_freeEntries (s : State) (x : Rx) : (s.setRx x).freeEntries = s.freeEntries := rfl
@[simp] theorem State.setRx_mayBegin (s : State) (x : Rx) : (s.setRx x).mayBegin = s.mayBegin := rfl
@[simp] theorem Rx.withBuf_buf (x : Rx) (b : List Byte) : (x.withBuf b).buf = b := rfl
@[simp] theorem Rx.withBuf_withBuf (x : Rx) (b c : List Byte) : (x.withBuf b).withBuf c = x.withBuf c := rfl
@[simp] theorem Rx.withBuf_self (x : Rx) : x.withBuf x.buf = x := rfl

@[simp] theorem State.pushReply_ready (s : State) (r : Reply) : (s.pushReply r).ready = s.ready ++ [r] := rfl

@[simp] theorem State.advance_timebase (s : State) (d : Nat) :
    (s.advance d).timebase = s.timebase + BitVec.ofNat 32 d := rfl

@[simp] theorem State.lane_advance (s : State) (d : Nat) (l : LaneId) : (s.advance d).lane l = (s.lane l).pass d := by
  simp [State.lane, State.advance]

@[simp] theorem State.orig_advance (s : State) (d : Nat) (o : Originator) :
    (s.advance d).orig o = { s.orig o with pacing := passTimer d (s.orig o).pacing } := by
  simp [State.orig, State.advance]

/-! ### Parts of a lane -/

@[simp] theorem LaneState.onLink_link (L : LaneState) (f : Link → Link) : (L.onLink f).link = f L.link := rfl
@[simp] theorem LaneState.onLink_options (L : LaneState) (f : Link → Link) : (L.onLink f).options = L.options := rfl
@[simp] theorem LaneState.onLink_send (L : LaneState) (f : Link → Link) : (L.onLink f).send = L.send := rfl
@[simp] theorem LaneState.onLink_upstream (L : LaneState) (f : Link → Link) : (L.onLink f).upstream = L.upstream := rfl
@[simp] theorem LaneState.onLink_occupancy (L : LaneState) (f : Link → Link) : (L.onLink f).occupancy = L.occupancy := rfl
@[simp] theorem LaneState.onLink_flowHeld (L : LaneState) (f : Link → Link) : (L.onLink f).flowHeld = L.flowHeld := rfl
@[simp] theorem LaneState.onLink_claim (L : LaneState) (f : Link → Link) : (L.onLink f).claim = L.claim := rfl
@[simp] theorem LaneState.onLink_sense (L : LaneState) (f : Link → Link) : (L.onLink f).sense = L.sense := rfl
@[simp] theorem LaneState.onLink_supply (L : LaneState) (f : Link → Link) : (L.onLink f).supply = L.supply := rfl
@[simp] theorem LaneState.onLink_strokes (L : LaneState) (f : Link → Link) : (L.onLink f).strokes = L.strokes := rfl
@[simp] theorem LaneState.onLink_nest (L : LaneState) (f : Link → Link) : (L.onLink f).nest = L.nest := rfl
@[simp] theorem LaneState.onLink_lamp (L : LaneState) (f : Link → Link) : (L.onLink f).lamp = L.lamp := rfl
@[simp] theorem LaneState.onLink_keep (L : LaneState) (f : Link → Link) : (L.onLink f).keep = L.keep := rfl
@[simp] theorem LaneState.onLink_activity (L : LaneState) (f : Link → Link) : (L.onLink f).activity = L.activity := rfl
@[simp] theorem LaneState.onUpstream_link (L : LaneState) (f : Upstream → Upstream) : (L.onUpstream f).link = L.link := rfl
@[simp] theorem LaneState.onUpstream_options (L : LaneState) (f : Upstream → Upstream) : (L.onUpstream f).options = L.options := rfl
@[simp] theorem LaneState.onUpstream_send (L : LaneState) (f : Upstream → Upstream) : (L.onUpstream f).send = L.send := rfl
@[simp] theorem LaneState.onUpstream_upstream (L : LaneState) (f : Upstream → Upstream) : (L.onUpstream f).upstream = f L.upstream := rfl
@[simp] theorem LaneState.onUpstream_occupancy (L : LaneState) (f : Upstream → Upstream) : (L.onUpstream f).occupancy = L.occupancy := rfl
@[simp] theorem LaneState.onUpstream_flowHeld (L : LaneState) (f : Upstream → Upstream) : (L.onUpstream f).flowHeld = L.flowHeld := rfl
@[simp] theorem LaneState.onUpstream_claim (L : LaneState) (f : Upstream → Upstream) : (L.onUpstream f).claim = L.claim := rfl
@[simp] theorem LaneState.onUpstream_sense (L : LaneState) (f : Upstream → Upstream) : (L.onUpstream f).sense = L.sense := rfl
@[simp] theorem LaneState.onUpstream_supply (L : LaneState) (f : Upstream → Upstream) : (L.onUpstream f).supply = L.supply := rfl
@[simp] theorem LaneState.onUpstream_strokes (L : LaneState) (f : Upstream → Upstream) : (L.onUpstream f).strokes = L.strokes := rfl
@[simp] theorem LaneState.onUpstream_nest (L : LaneState) (f : Upstream → Upstream) : (L.onUpstream f).nest = L.nest := rfl
@[simp] theorem LaneState.onUpstream_lamp (L : LaneState) (f : Upstream → Upstream) : (L.onUpstream f).lamp = L.lamp := rfl
@[simp] theorem LaneState.onUpstream_keep (L : LaneState) (f : Upstream → Upstream) : (L.onUpstream f).keep = L.keep := rfl
@[simp] theorem LaneState.onUpstream_activity (L : LaneState) (f : Upstream → Upstream) : (L.onUpstream f).activity = L.activity := rfl
@[simp] theorem LaneState.onSupply_link (L : LaneState) (f : Supply → Supply) : (L.onSupply f).link = L.link := rfl
@[simp] theorem LaneState.onSupply_options (L : LaneState) (f : Supply → Supply) : (L.onSupply f).options = L.options := rfl
@[simp] theorem LaneState.onSupply_send (L : LaneState) (f : Supply → Supply) : (L.onSupply f).send = L.send := rfl
@[simp] theorem LaneState.onSupply_upstream (L : LaneState) (f : Supply → Supply) : (L.onSupply f).upstream = L.upstream := rfl
@[simp] theorem LaneState.onSupply_occupancy (L : LaneState) (f : Supply → Supply) : (L.onSupply f).occupancy = L.occupancy := rfl
@[simp] theorem LaneState.onSupply_flowHeld (L : LaneState) (f : Supply → Supply) : (L.onSupply f).flowHeld = L.flowHeld := rfl
@[simp] theorem LaneState.onSupply_claim (L : LaneState) (f : Supply → Supply) : (L.onSupply f).claim = L.claim := rfl
@[simp] theorem LaneState.onSupply_sense (L : LaneState) (f : Supply → Supply) : (L.onSupply f).sense = L.sense := rfl
@[simp] theorem LaneState.onSupply_supply (L : LaneState) (f : Supply → Supply) : (L.onSupply f).supply = f L.supply := rfl
@[simp] theorem LaneState.onSupply_strokes (L : LaneState) (f : Supply → Supply) : (L.onSupply f).strokes = L.strokes := rfl
@[simp] theorem LaneState.onSupply_nest (L : LaneState) (f : Supply → Supply) : (L.onSupply f).nest = L.nest := rfl
@[simp] theorem LaneState.onSupply_lamp (L : LaneState) (f : Supply → Supply) : (L.onSupply f).lamp = L.lamp := rfl
@[simp] theorem LaneState.onSupply_keep (L : LaneState) (f : Supply → Supply) : (L.onSupply f).keep = L.keep := rfl
@[simp] theorem LaneState.onSupply_activity (L : LaneState) (f : Supply → Supply) : (L.onSupply f).activity = L.activity := rfl
@[simp] theorem LaneState.onStrokes_link (L : LaneState) (f : Strokes → Strokes) : (L.onStrokes f).link = L.link := rfl
@[simp] theorem LaneState.onStrokes_options (L : LaneState) (f : Strokes → Strokes) : (L.onStrokes f).options = L.options := rfl
@[simp] theorem LaneState.onStrokes_send (L : LaneState) (f : Strokes → Strokes) : (L.onStrokes f).send = L.send := rfl
@[simp] theorem LaneState.onStrokes_upstream (L : LaneState) (f : Strokes → Strokes) : (L.onStrokes f).upstream = L.upstream := rfl
@[simp] theorem LaneState.onStrokes_occupancy (L : LaneState) (f : Strokes → Strokes) : (L.onStrokes f).occupancy = L.occupancy := rfl
@[simp] theorem LaneState.onStrokes_flowHeld (L : LaneState) (f : Strokes → Strokes) : (L.onStrokes f).flowHeld = L.flowHeld := rfl
@[simp] theorem LaneState.onStrokes_claim (L : LaneState) (f : Strokes → Strokes) : (L.onStrokes f).claim = L.claim := rfl
@[simp] theorem LaneState.onStrokes_sense (L : LaneState) (f : Strokes → Strokes) : (L.onStrokes f).sense = L.sense := rfl
@[simp] theorem LaneState.onStrokes_supply (L : LaneState) (f : Strokes → Strokes) : (L.onStrokes f).supply = L.supply := rfl
@[simp] theorem LaneState.onStrokes_strokes (L : LaneState) (f : Strokes → Strokes) : (L.onStrokes f).strokes = f L.strokes := rfl
@[simp] theorem LaneState.onStrokes_nest (L : LaneState) (f : Strokes → Strokes) : (L.onStrokes f).nest = L.nest := rfl
@[simp] theorem LaneState.onStrokes_lamp (L : LaneState) (f : Strokes → Strokes) : (L.onStrokes f).lamp = L.lamp := rfl
@[simp] theorem LaneState.onStrokes_keep (L : LaneState) (f : Strokes → Strokes) : (L.onStrokes f).keep = L.keep := rfl
@[simp] theorem LaneState.onStrokes_activity (L : LaneState) (f : Strokes → Strokes) : (L.onStrokes f).activity = L.activity := rfl
@[simp] theorem LaneState.onSense_link (L : LaneState) (o : Originator) (f : Sense → Sense) : (L.onSense o f).link = L.link := rfl
@[simp] theorem LaneState.onSense_options (L : LaneState) (o : Originator) (f : Sense → Sense) : (L.onSense o f).options = L.options := rfl
@[simp] theorem LaneState.onSense_send (L : LaneState) (o : Originator) (f : Sense → Sense) : (L.onSense o f).send = L.send := rfl
@[simp] theorem LaneState.onSense_upstream (L : LaneState) (o : Originator) (f : Sense → Sense) : (L.onSense o f).upstream = L.upstream := rfl
@[simp] theorem LaneState.onSense_occupancy (L : LaneState) (o : Originator) (f : Sense → Sense) : (L.onSense o f).occupancy = L.occupancy := rfl
@[simp] theorem LaneState.onSense_flowHeld (L : LaneState) (o : Originator) (f : Sense → Sense) : (L.onSense o f).flowHeld = L.flowHeld := rfl
@[simp] theorem LaneState.onSense_claim (L : LaneState) (o : Originator) (f : Sense → Sense) : (L.onSense o f).claim = L.claim := rfl
@[simp] theorem LaneState.onSense_supply (L : LaneState) (o : Originator) (f : Sense → Sense) : (L.onSense o f).supply = L.supply := rfl
@[simp] theorem LaneState.onSense_strokes (L : LaneState) (o : Originator) (f : Sense → Sense) : (L.onSense o f).strokes = L.strokes := rfl
@[simp] theorem LaneState.onSense_nest (L : LaneState) (o : Originator) (f : Sense → Sense) : (L.onSense o f).nest = L.nest := rfl
@[simp] theorem LaneState.onSense_lamp (L : LaneState) (o : Originator) (f : Sense → Sense) : (L.onSense o f).lamp = L.lamp := rfl
@[simp] theorem LaneState.onSense_keep (L : LaneState) (o : Originator) (f : Sense → Sense) : (L.onSense o f).keep = L.keep := rfl
@[simp] theorem LaneState.onSense_activity (L : LaneState) (o : Originator) (f : Sense → Sense) : (L.onSense o f).activity = L.activity := rfl
@[simp] theorem LaneState.pass_options (L : LaneState) (d : Nat) : (L.pass d).options = L.options := rfl
@[simp] theorem LaneState.pass_send (L : LaneState) (d : Nat) : (L.pass d).send = L.send := rfl
@[simp] theorem LaneState.pass_occupancy (L : LaneState) (d : Nat) : (L.pass d).occupancy = L.occupancy := rfl
@[simp] theorem LaneState.pass_flowHeld (L : LaneState) (d : Nat) : (L.pass d).flowHeld = L.flowHeld := rfl
@[simp] theorem LaneState.pass_claim (L : LaneState) (d : Nat) : (L.pass d).claim = L.claim := rfl
@[simp] theorem LaneState.pass_sense (L : LaneState) (d : Nat) : (L.pass d).sense = L.sense := rfl
@[simp] theorem LaneState.pass_lamp (L : LaneState) (d : Nat) : (L.pass d).lamp = L.lamp := rfl
@[simp] theorem LaneState.pass_keep (L : LaneState) (d : Nat) : (L.pass d).keep = L.keep := rfl

/-! ### The link of a lane -/

@[simp] theorem Link.quiet_state (k : Link) : (k.quiet).state = k.state := rfl
@[simp] theorem Link.quiet_line (k : Link) : (k.quiet).line = k.line := rfl
@[simp] theorem Link.quiet_connectQual (k : Link) : (k.quiet).connectQual = k.connectQual := rfl
@[simp] theorem Link.quiet_connectPresent (k : Link) : (k.quiet).connectPresent = k.connectPresent := rfl
@[simp] theorem Link.quiet_epoch (k : Link) : (k.quiet).epoch = k.epoch := rfl
@[simp] theorem Link.quiet_identity (k : Link) : (k.quiet).identity = k.identity := rfl
@[simp] theorem Link.quiet_highSpeed (k : Link) : (k.quiet).highSpeed = k.highSpeed := rfl
@[simp] theorem Link.quiet_address (k : Link) : (k.quiet).address = k.address := rfl
@[simp] theorem Link.quiet_function (k : Link) : (k.quiet).function = k.function := rfl
@[simp] theorem Link.quiet_outToggle (k : Link) : (k.quiet).outToggle = k.outToggle := rfl
@[simp] theorem Link.quiet_inToggle (k : Link) : (k.quiet).inToggle = k.inToggle := rfl
@[simp] theorem Link.quiet_recovered (k : Link) : (k.quiet).recovered = k.recovered := rfl
@[simp] theorem Link.resetDone_state (k : Link) (b : Bool) : (k.resetDone b).state = k.state := rfl
@[simp] theorem Link.resetDone_line (k : Link) (b : Bool) : (k.resetDone b).line = k.line := rfl
@[simp] theorem Link.resetDone_connectQual (k : Link) (b : Bool) : (k.resetDone b).connectQual = k.connectQual := rfl
@[simp] theorem Link.resetDone_connectPresent (k : Link) (b : Bool) :
    (k.resetDone b).connectPresent = k.connectPresent := rfl
@[simp] theorem Link.resetDone_epoch (k : Link) (b : Bool) : (k.resetDone b).epoch = k.epoch := rfl
@[simp] theorem Link.resetDone_identity (k : Link) (b : Bool) : (k.resetDone b).identity = k.identity := rfl
@[simp] theorem Link.resetDone_outToggle (k : Link) (b : Bool) : (k.resetDone b).outToggle = k.outToggle := rfl
@[simp] theorem Link.resetDone_inToggle (k : Link) (b : Bool) : (k.resetDone b).inToggle = k.inToggle := rfl
@[simp] theorem Link.resetDone_out (k : Link) (b : Bool) : (k.resetDone b).out = k.out := rfl
@[simp] theorem Link.resetDone_inn (k : Link) (b : Bool) : (k.resetDone b).inn = k.inn := rfl
@[simp] theorem Link.resetDone_clearings (k : Link) (b : Bool) : (k.resetDone b).clearings = k.clearings := rfl
@[simp] theorem Link.resetDone_clearRetry (k : Link) (b : Bool) : (k.resetDone b).clearRetry = k.clearRetry := rfl
@[simp] theorem Link.resetDone_errorCount (k : Link) (b : Bool) : (k.resetDone b).errorCount = k.errorCount := rfl
@[simp] theorem Link.resetDone_recovered (k : Link) (b : Bool) : (k.resetDone b).recovered = k.recovered := rfl
@[simp] theorem Link.enumerated_state (k : Link) (stage : EnumStage) (r : EnumResult) :
    (Link.enumerated stage r k).state = k.state := by cases r <;> cases stage <;> rfl
@[simp] theorem Link.enumerated_line (k : Link) (stage : EnumStage) (r : EnumResult) :
    (Link.enumerated stage r k).line = k.line := by cases r <;> cases stage <;> rfl
@[simp] theorem Link.enumerated_connectQual (k : Link) (stage : EnumStage) (r : EnumResult) :
    (Link.enumerated stage r k).connectQual = k.connectQual := by cases r <;> cases stage <;> rfl
@[simp] theorem Link.enumerated_connectPresent (k : Link) (stage : EnumStage) (r : EnumResult) :
    (Link.enumerated stage r k).connectPresent = k.connectPresent := by cases r <;> cases stage <;> rfl
@[simp] theorem Link.enumerated_epoch (k : Link) (stage : EnumStage) (r : EnumResult) :
    (Link.enumerated stage r k).epoch = k.epoch := by cases r <;> cases stage <;> rfl
@[simp] theorem Link.enumerated_identity (k : Link) (stage : EnumStage) (r : EnumResult) :
    (Link.enumerated stage r k).identity = k.identity := by cases r <;> cases stage <;> rfl
@[simp] theorem Link.enumerated_highSpeed (k : Link) (stage : EnumStage) (r : EnumResult) :
    (Link.enumerated stage r k).highSpeed = k.highSpeed := by cases r <;> cases stage <;> rfl
@[simp] theorem Link.enumerated_out (k : Link) (stage : EnumStage) (r : EnumResult) :
    (Link.enumerated stage r k).out = k.out := by cases r <;> cases stage <;> rfl
@[simp] theorem Link.enumerated_inn (k : Link) (stage : EnumStage) (r : EnumResult) :
    (Link.enumerated stage r k).inn = k.inn := by cases r <;> cases stage <;> rfl
@[simp] theorem Link.enumerated_clearings (k : Link) (stage : EnumStage) (r : EnumResult) :
    (Link.enumerated stage r k).clearings = k.clearings := by cases r <;> cases stage <;> rfl
@[simp] theorem Link.enumerated_clearRetry (k : Link) (stage : EnumStage) (r : EnumResult) :
    (Link.enumerated stage r k).clearRetry = k.clearRetry := by cases r <;> cases stage <;> rfl
@[simp] theorem Link.enumerated_errorCount (k : Link) (stage : EnumStage) (r : EnumResult) :
    (Link.enumerated stage r k).errorCount = k.errorCount := by cases r <;> cases stage <;> rfl
@[simp] theorem Link.enumerated_recovered (k : Link) (stage : EnumStage) (r : EnumResult) :
    (Link.enumerated stage r k).recovered = k.recovered := by cases r <;> cases stage <;> rfl
@[simp] theorem Link.clearingEnds_state (k : Link) (e : Endpoint) (rest : List Endpoint) :
    (Link.clearingEnds e rest k).state = k.state := by cases e <;> rfl
@[simp] theorem Link.clearingEnds_line (k : Link) (e : Endpoint) (rest : List Endpoint) :
    (Link.clearingEnds e rest k).line = k.line := by cases e <;> rfl
@[simp] theorem Link.clearingEnds_connectQual (k : Link) (e : Endpoint) (rest : List Endpoint) :
    (Link.clearingEnds e rest k).connectQual = k.connectQual := by cases e <;> rfl
@[simp] theorem Link.clearingEnds_connectPresent (k : Link) (e : Endpoint) (rest : List Endpoint) :
    (Link.clearingEnds e rest k).connectPresent = k.connectPresent := by cases e <;> rfl
@[simp] theorem Link.clearingEnds_epoch (k : Link) (e : Endpoint) (rest : List Endpoint) :
    (Link.clearingEnds e rest k).epoch = k.epoch := by cases e <;> rfl
@[simp] theorem Link.clearingEnds_identity (k : Link) (e : Endpoint) (rest : List Endpoint) :
    (Link.clearingEnds e rest k).identity = k.identity := by cases e <;> rfl
@[simp] theorem Link.clearingEnds_highSpeed (k : Link) (e : Endpoint) (rest : List Endpoint) :
    (Link.clearingEnds e rest k).highSpeed = k.highSpeed := by cases e <;> rfl
@[simp] theorem Link.clearingEnds_address (k : Link) (e : Endpoint) (rest : List Endpoint) :
    (Link.clearingEnds e rest k).address = k.address := by cases e <;> rfl
@[simp] theorem Link.clearingEnds_function (k : Link) (e : Endpoint) (rest : List Endpoint) :
    (Link.clearingEnds e rest k).function = k.function := by cases e <;> rfl
@[simp] theorem Link.clearingEnds_out (k : Link) (e : Endpoint) (rest : List Endpoint) :
    (Link.clearingEnds e rest k).out = k.out := by cases e <;> rfl
@[simp] theorem Link.clearingEnds_inn (k : Link) (e : Endpoint) (rest : List Endpoint) :
    (Link.clearingEnds e rest k).inn = k.inn := by cases e <;> rfl
@[simp] theorem Link.clearingEnds_clearRetry (k : Link) (e : Endpoint) (rest : List Endpoint) :
    (Link.clearingEnds e rest k).clearRetry = k.clearRetry := by cases e <;> rfl
@[simp] theorem Link.clearingEnds_errorCount (k : Link) (e : Endpoint) (rest : List Endpoint) :
    (Link.clearingEnds e rest k).errorCount = k.errorCount := by cases e <;> rfl
@[simp] theorem Link.clearingEnds_recovered (k : Link) (e : Endpoint) (rest : List Endpoint) :
    (Link.clearingEnds e rest k).recovered = k.recovered := by cases e <;> rfl

@[simp] theorem State.lane_tookOut_self (s : State) (l : LaneId) :
    (s.tookOut l).lane l = (s.lane l).onLink fun n => { n with outToggle := !n.outToggle } := by simp [State.tookOut]

@[simp] theorem State.lane_tookIn_self (s : State) (l : LaneId) :
    (s.tookIn l).lane l = (s.lane l).onLink fun n => { n with inToggle := !n.inToggle } := by simp [State.tookIn]

/-- R40, R43: the clearing that ends makes way for the next. -/
@[simp] theorem Link.clearingEnds_clearings (k : Link) (e : Endpoint) (rest : List Endpoint) :
    (Link.clearingEnds e rest k).clearings = rest := by cases e <;> rfl

/-- A supply that enters or leaves ON, or changes source, is at the start of its blanking. -/
@[simp] theorem Supply.zeroCounts_blanked (u : Supply) : u.zeroCounts.blanked = true ↔ 0 < u.blanking := by
  show (!false && decide (0 < u.blanking)) = true ↔ _
  simp

end Sys2Proof.Machine
end

