-- ==== Sys2Proof/Laws/Ops.lean ====
section
/-! SUPPORT. What each shared operation does, said once: changes of one lane in one normal form (`setLane` of the state that
the other blocks leave), event offers beside lane changes, the end of a send, the poll conditions, the pack tests, squeeze,
and the link fault. -/

namespace Sys2Proof.Machine

/-! ### One lane at a time -/

/-- A change of one lane as a replacement of it. -/
theorem State.onLane_eq_setLane (s : State) (l : LaneId) (f : LaneState → LaneState) :
    s.onLane l f = s.setLane l (f (s.lane l)) := rfl

@[simp] theorem State.setLane_setLane (s : State) (l : LaneId) (u v : LaneState) :
    (s.setLane l u).setLane l v = s.setLane l v := by simp [State.setLane]

/-- A sum over the lane vector as a sum over the lane numbers. -/
theorem State.sum_lanes (s : State) (f : LaneState → Nat) :
    (s.lanes.toList.map f).sum = ((List.finRange 24).map fun k => f (s.lane k)).sum := by
  have h : s.lanes.toList = (List.finRange 24).map fun k => s.lane k := by
    apply List.ext_getElem
    · simp
    · intro i h1 h2; simp [State.lane]
  rw [h, List.map_map]; rfl

theorem State.releaseDown_setLane (s : State) (n : Nat) (l : LaneId) (v : LaneState) :
    (s.setLane l v).releaseDown n = (s.releaseDown n).setLane l v := rfl

theorem State.pushReply_setLane (s : State) (r : Reply) (l : LaneId) (v : LaneState) :
    (s.setLane l v).pushReply r = (s.pushReply r).setLane l v := rfl

/-! ### Events -/

/-- A lane event reads of its lane the claim alone, so that it may be offered before or after any other change. -/
theorem State.offerLane_setLane (s : State) (k : EventKind) (l : LaneId) (v : LaneState)
    (h : v.claim = (s.lane l).claim) : (s.setLane l v).offerLane k l = (s.offerLane k l).setLane l v := by
  have hr : ∀ o, (s.setLane l v).laneEventReaches k l o = s.laneEventReaches k l o := by
    intro o; simp [State.laneEventReaches, LaneState.concerns, h]
  simp [State.offerLane, hr]; rfl

/-! ### Sense records -/

/-- R119: recording leaves the causes, never lowers the further count, and leaves a condition in the record. -/
theorem Sense.record_spec (r : Sense) (c : Cond) (now : Stamp) (e : Option (BitVec 16)) :
    (r.record c now e).causes = r.causes ∧ (r.record c now e).held ≠ none ∧
      (r.record c now e).further = if r.held = none then r.further else min 255 (r.further + 1) := by
  rcases hr : r.held with _ | h
  · simp [Sense.record, hr]
  · by_cases hk : h.cond.key ≤ c.key <;> simp [Sense.record, hr, hk]

/-- R109, R118: on a FREE lane an asynchronous condition is recorded nowhere. -/
theorem State.recordAsync_free (s : State) (c : Cond) (l : LaneId) (h : (s.lane l).claim = none) :
    s.recordAsync c l = s := by simp [State.recordAsync, h]

/-- R109, R118: on a HELD lane it goes to the beneficiary's lane record. -/
theorem State.recordAsync_held (s : State) (c : Cond) (l : LaneId) (k : Claim) (h : (s.lane l).claim = some k) :
    s.recordAsync c l = s.recordLane c k.beneficiary l := by simp [State.recordAsync, h]

/-! ### The end of a send -/

/-- R52, R70, R72, R117: one send that ends CHECK: its cells, its reply, and its sender's record for the lane. -/
theorem State.endSendCheck_setLane (s : State) (l : LaneId) (v : LaneState) (c : Cond) (r : SendRecord) :
    (s.setLane l v).endSendCheck c l r =
      ((s.releaseDown r.cells).pushReply (r.reply l .check (shortSense c))).setLane l
        (v.onSense r.sender (Sense.record c s.timebase (some v.link.epoch))) := by
  simp only [State.endSendCheck, State.releaseDown_setLane, State.recordLane, State.onLane_eq_setLane,
    State.lane_setLane_self, State.setLane_setLane, State.pushReply_setLane]
  rfl

/-- R52, R70, R121: one send that ends GOOD. -/
theorem State.endSendGood_setLane (s : State) (l : LaneId) (v : LaneState) (n : Nat) (r : SendRecord) :
    (s.setLane l v).endSendGood n l r =
      ((s.releaseDown r.cells).pushReply (r.reply l .good (le16 r.epoch.toNat ++ le8 n))).setLane l
        (v.onSense r.sender Sense.clear) := by
  simp only [State.endSendGood, State.releaseDown_setLane, State.clearCondition, State.onLane_eq_setLane,
    State.lane_setLane_self, State.setLane_setLane, State.pushReply_setLane]

/-! ### Poll conditions, pack tests, squeeze -/

/-- R41. -/
theorem State.mayPoll_iff (s : State) (l : LaneId) : s.mayPoll l = true ↔ s.pollConditions l := by
  simp [State.mayPoll, State.pollConditions, and_assoc]

/-- R41, R42: what a recheck of the poll conditions does. -/
theorem State.recheckPoll_spec (s : State) (l : LaneId) (underWay : Option Poll) :
    (s.pollConditions l → s.recheckPoll underWay l = s.setIn (.polling (underWay.getD Poll.fresh)) l) ∧
      (¬ s.pollConditions l → s.recheckPoll underWay l = s.setIn (.idle underWay) l) := by
  rw [← State.mayPoll_iff]
  constructor <;> intro h <;> simp [State.recheckPoll, h]

/-- An engine that enters the state it is in changes nothing. -/
theorem State.setIn_same (s : State) (l : LaneId) : s.setIn (s.lane l).link.inn l = s :=
  s.setLane_lane l

/-- R42: the packet that an IN engine is reading survives the passing of time, with its timer's time. -/
@[simp] theorem InEngine.reading_pass (d : Nat) (e : InEngine) : (e.pass d).reading = e.reading.map (Poll.pass d) := by
  cases e <;> rfl

/-- R42: an engine that asks reads the poll it asks for. -/
theorem InEngine.reading_of_asking (e : InEngine) (p : Poll) (h : e.asking = some p) : e.reading = some p := by
  cases e <;> simp_all [InEngine.asking, InEngine.reading]

/-- R42: a poll that goes on is asked for as before, and what it has read is what goes on. -/
theorem InEngine.asking_goOn (e : InEngine) (p q : Poll) (h : e.asking = some p) : (e.goOn q).asking = some q := by
  cases e <;> simp_all [InEngine.asking, InEngine.goOn]

/-- R92: tests 1, 3 and 4. -/
theorem packReady_iff (o : LaneOptions) (ps : List PacketRecord) :
    packReady o ps = true ↔
      o.packTimer = 0 ∨ (o.packThreshold ≠ 0 ∧ o.packThreshold ≤ queuedBytes ps) ∨ ∃ p ∈ ps, p.urgent = true := by
  simp [packReady, or_assoc]

/-- R94. -/
theorem State.candidate_iff (s : State) (b : Bool) (l : LaneId) : (s.lane l).candidate b = true ↔ s.isCandidate b l := by
  simp [LaneState.candidate, LaneState.isHeld, State.isCandidate, Option.isSome_iff_ne_none, and_assoc]

/-- R53: the shared free cells. -/
theorem State.sharedFree_eq (s : State) :
    s.sharedFree = (2048 - s.downCells - 24 * s.reserve) -
      ((List.finRange 24).map fun l => (s.lane l).occupancy - s.reserve).sum := by
  simp only [State.sharedFree, State.sharedPool, State.upCells, State.totalBorrowing, State.sum_lanes, Config.cells,
    Config.lanes, State.borrowing]

/-- R59, after an admission. -/
theorem State.squeezeAfterAdmission_eq (s : State) : s.squeezeAfterAdmission = s.enterSqueeze := by
  simp only [State.squeezeAfterAdmission, State.enterSqueeze, State.sharedFree_eq, Config.squeezeBelow, and_comm]

/-- R59, after a release. -/
theorem State.squeezeAfterRelease_eq (s : State) : s.squeezeAfterRelease = s.leaveSqueeze := by
  simp only [State.squeezeAfterRelease, State.leaveSqueeze, State.sharedFree_eq, Config.reliefAt, and_comm]

/-- R54: the two admission tests. -/
theorem State.admits_iff (s : State) (L : LaneState) (c : Nat) :
    s.admits L c = true ↔ L.occupancy + c ≤ L.options.cap ∧
      (L.occupancy + c - s.reserve) - (L.occupancy - s.reserve) ≤
        (2048 - s.downCells - 24 * s.reserve) - ((List.finRange 24).map fun l => (s.lane l).occupancy - s.reserve).sum := by
  simp [State.admits, State.extraBorrowing, State.borrowing, State.sharedFree_eq]

/-! ### The lane port -/

/-- R38: the data packets of a packet: whole ones of `p` bytes and a shorter last one, which together are the packet;
`dataPacket` is each of them by its number. -/
theorem dataPacket_spec (p : Nat) (hp : 0 < p) (data : List Byte) :
    ∃ (whole : List (List Byte)) (final : List Byte), whole.flatten ++ final = data ∧ whole.length = data.length / p ∧
      (∀ q ∈ whole, q.length = p) ∧ final.length < p ∧
      ∀ i, i ≤ data.length / p → (whole ++ [final])[i]? = some (dataPacket p data i) := by
  generalize hn : data.length / p = n
  induction n generalizing data with
  | zero =>
    have hs : data.length < p := by
      rcases (Nat.div_eq_zero_iff).1 hn with h | h
      · omega
      · exact h
    refine ⟨[], data, by simp, by simp, by simp, hs, fun i hi => ?_⟩
    obtain rfl : i = 0 := by omega
    simp [dataPacket, List.take_of_length_le hs.le]
  | succ n ih =>
    have hl : p ≤ data.length := by
      by_contra h
      simp [Nat.div_eq_of_lt (Nat.lt_of_not_le h)] at hn
    have hd : (data.drop p).length / p = n := by
      rw [List.length_drop]
      have := Nat.sub_mul_div data.length p 1
      simp only [Nat.mul_one] at this
      omega
    obtain ⟨whole, final, hf, hc, hw, hfl, hi⟩ := ih (data.drop p) hd
    refine ⟨data.take p :: whole, final, by simp [hf], by simp [hc], ?_, hfl, fun i h => ?_⟩
    · intro q hq
      rcases List.mem_cons.1 hq with rfl | hq
      · simp [hl]
      · exact hw q hq
    · cases i with
      | zero => simp [dataPacket]
      | succ i => simpa [dataPacket, Nat.succ_mul, Nat.add_comm] using hi i (by omega)

/-- R30, R38: while an attempt is under way, the OUT transaction carries the data packet that has not been accepted. -/
theorem Link.outTransaction_sending (n : Link) (d : DiagFunction) (f : Flight) (left : Nat) (hd : n.function = some d)
    (hf : n.out = .sending f left) :
    n.outTransaction =
      some ⟨n.address, d.outEndpoint, n.outToggle, dataPacket n.packetSize f.record.data f.accepted⟩ := by
  simp [Link.outTransaction, Link.outgoing, hd, hf]

/-- R30, R36, R42: what an IN data packet makes of the packet being read, said once. -/
theorem Poll.accept_spec (size timeout : Nat) (fresh : Bool) (data : List Byte) (p : Poll) :
    (size < data.length → p.accept size timeout fresh data = .tooLong) ∧
      (data.length ≤ size → fresh = false → p.accept size timeout fresh data = .repeated) ∧
      (data.length = size → fresh = true → p.count + data.length < 2048 → p.accept size timeout fresh data =
        .more ⟨(p.bytes ++ data).take 1024, p.count + data.length, some (timeout * 1000)⟩) ∧
      (data.length < size ∨ (data.length = size ∧ 2048 ≤ p.count + data.length) → fresh = true →
        p.accept size timeout fresh data = .ended ((p.bytes ++ data).take 1024) (p.count + data.length)) := by
  refine ⟨fun h => by simp [Poll.accept, h], fun h hf => by simp [Poll.accept, Nat.not_lt.2 h, hf],
    fun h hf hc => ?_, fun h hf => ?_⟩
  · have : ¬ (data.length < size ∨ Config.packetCut ≤ p.count + data.length) := by simp only [Config.packetCut]; omega
    simp [Poll.accept, hf, h.le, this, Config.handOver]
  · have h1 : ¬ size < data.length := by omega
    have h2 : data.length < size ∨ Config.packetCut ≤ p.count + data.length := by simp only [Config.packetCut]; omega
    simp [Poll.accept, hf, h1, h2, Config.handOver]

/-! ### The blanking -/

/-- R133, R135: a sample is blanked until the count has reached Bk, or a SET_TRIP has found that it had. -/
theorem Supply.blanked_iff (u : Supply) :
    u.blanked = true ↔ ¬ (u.blankPassed = true ∨ u.blanking ≤ u.blankCount) := by
  simp [Supply.blanked]

/-! ### The link fault -/

/-- R35, R37: what a link fault leaves does not depend on the error count that it found. -/
theorem State.linkFault_errorCount (s : State) (l : LaneId) (engine n : Nat) :
    (s.onLane l fun L => L.onLink fun k => { k with errorCount := n }).linkFault engine l = s.linkFault engine l := by
  simp only [State.linkFault, State.leaveUp, State.enterAttaching, State.recordAsync, State.onLane_eq_setLane,
    State.recordLane, LaneState.onLink]
  rcases hc : (s.lane l).claim with _ | c <;> simp [hc, LaneState.onSense, Link.quiet, LaneState.sends]

end Sys2Proof.Machine
end

