-- ==== Sys2Proof/Laws/Reception.lean ====
section
/-! SUPPORT. What reception and the request checks do, said once: reception phase by phase; an OUT side that hears takes a request whole and
its handling is the whole effect; and where each check of R9 lets a request through. -/

namespace Sys2Proof.Machine

/-! ### Reception, phase by phase (R4) -/

/-- R5: the announced length stands in bytes 8 and 9, whatever follows. -/
theorem announced_append (got more : List Byte) (h : 10 ≤ got.length) : announced (got ++ more) = announced got := by
  have hd : ∀ i, i < got.length → (got ++ more).getD i 0 = got.getD i 0 := fun i hi => by
    simp [List.getD_eq_getElem?_getD, List.getElem?_append_left hi]
  simp only [announced, u16At, byteAt, hd 8 (by omega), hd 9 (by omega)]

/-- A byte that judges nothing is taken. -/
theorem Rx.run_take (m : Bool) (x : Rx) (b : Byte) (bs : List Byte) (hb : x.begun = true) (hj : x.judges b = none) :
    Rx.run m x (b :: bs) = Rx.run m (x.takeByte b) bs := by
  rw [Rx.run, if_neg (by simp [hb, hj])]

/-- HUNT takes the marker, where a frame is begun or may be. -/
theorem Rx.run_marker (m : Bool) (x : Rx) (r : List Byte) (hp : x.phase = .hunt) (hg : x.got = [])
    (hb : (x.begun || m) = true) :
    Rx.run m x (0x5A :: 0xC3 :: r) = Rx.run m ⟨true, .header, [0x5A, 0xC3], x.buf⟩ r := by
  obtain ⟨begun, phase, got, buf⟩ := x
  simp only at hp hg hb
  subst hp hg
  rw [Rx.run, if_neg (by cases begun <;> cases m <;> simp_all [Rx.judges])]
  have h1 : (⟨begun, .hunt, [], buf⟩ : Rx).takeByte 0x5A = ⟨true, .hunt, [0x5A], buf⟩ := by simp [Rx.takeByte]
  have h2 : (⟨true, .hunt, [0x5A], buf⟩ : Rx).takeByte 0xC3 = ⟨true, .header, [0x5A, 0xC3], buf⟩ := by
    simp [Rx.takeByte]
  rw [h1, Rx.run_take m _ _ _ rfl rfl, h2]

/-- HEADER takes bytes up to byte 8. -/
theorem Rx.run_header (m : Bool) (buf r : List Byte) : ∀ bs got : List Byte, got.length + bs.length ≤ 9 →
    Rx.run m ⟨true, .header, got, buf⟩ (bs ++ r) = Rx.run m ⟨true, .header, got ++ bs, buf⟩ r := by
  intro bs
  induction bs with
  | nil => intro got _; simp
  | cons b bs ih =>
    intro got h
    simp only [List.length_cons] at h
    have ht : (⟨true, .header, got, buf⟩ : Rx).takeByte b = ⟨true, .header, got ++ [b], buf⟩ := by
      simp [Rx.takeByte]; omega
    rw [List.cons_append, Rx.run_take m _ _ _ rfl (by simp [Rx.judges]; omega), ht, ih _ (by simp; omega)]
    simp

/-- BODY takes the bytes that are announced, and goes to CRC. -/
theorem Rx.run_body (m : Bool) (buf r : List Byte) : ∀ bs got : List Byte, 10 ≤ got.length → bs ≠ [] →
    got.length + bs.length = 10 + announced got →
    Rx.run m ⟨true, .body, got, buf⟩ (bs ++ r) = Rx.run m ⟨true, .crc, got ++ bs, buf⟩ r := by
  intro bs
  induction bs with
  | nil => intro got _ hn; exact absurd rfl hn
  | cons b bs ih =>
    intro got h _ he
    simp only [List.length_cons] at he
    have ha := announced_append got [b] h
    rw [List.cons_append, Rx.run_take m _ _ _ rfl rfl]
    by_cases hb : bs = []
    · subst hb
      simp only [List.length_nil] at he
      have ht : (⟨true, .body, got, buf⟩ : Rx).takeByte b = ⟨true, .crc, got ++ [b], buf⟩ := by
        simp only [Rx.takeByte]
        rw [ha, if_neg (by simp; omega)]
      rw [ht]; rfl
    · have hl : 0 < bs.length := List.length_pos_iff.2 hb
      have ht : (⟨true, .body, got, buf⟩ : Rx).takeByte b = ⟨true, .body, got ++ [b], buf⟩ := by
        simp only [Rx.takeByte]
        rw [ha, if_pos (by simp; omega)]
      rw [ht, ih _ (by simp; omega) hb (by rw [ha]; simp; omega)]
      simp

/-- CRC takes its first byte, and the second one is the judgement of the whole frame. -/
theorem Rx.run_crc (m : Bool) (buf : List Byte) (lo hi : Byte) (r got : List Byte) (h : got.length = 10 + announced got) :
    Rx.run m ⟨true, .crc, got, buf⟩ (lo :: hi :: r) = (⟨true, .crc, got ++ [lo], buf⟩, hi :: r) ∧
      (⟨true, .crc, got ++ [lo], buf⟩ : Rx).judges hi = some (judgeFrame (got ++ [lo] ++ [hi])) := by
  have hj : (⟨true, .crc, got ++ [lo], buf⟩ : Rx).judges hi = some (judgeFrame (got ++ [lo] ++ [hi])) := by
    simp only [Rx.judges]
    rw [announced_append _ _ (by omega), if_neg (by simp; omega)]
  refine ⟨?_, hj⟩
  rw [Rx.run_take m _ _ _ rfl (by simp only [Rx.judges]; rw [if_pos (by omega)])]
  show Rx.run m ⟨true, .crc, got ++ [lo], buf⟩ (hi :: r) = _
  rw [Rx.run, if_pos (by simp [hj])]

/-- With nothing in the receive buffer, the OUT side goes on with nothing. -/
theorem State.pump_of_idle (s : State) (h : s.rx = Rx.idle) : s.pump = s := by
  cases s
  simp only at h
  subst h
  rfl

/-- With nothing in the receive buffer, no judgement stands next. -/
theorem State.verdict_of_idle (s : State) (h : s.rx = Rx.idle) : s.verdict = none := by
  simp [State.verdict, h, Rx.idle]

/-- An OUT side that hears may begin a frame. -/
theorem State.hears.mayBegin {s : State} (h : s.hears) : s.mayBegin = true := by
  obtain ⟨-, -, -, hf, hr⟩ := h
  simp [State.mayBegin, hf, hr]

/-- An OUT side that hears takes a request frame whole, and is as it was. -/
theorem State.hears.takeRequest {s : State} (h : s.hears) (rq : Request) (hb : rq.body.length ≤ 4096) :
    s.takeRequest rq = some s := by
  have hm := h.mayBegin
  obtain ⟨hp, hs, hx, -, -⟩ := h
  have hl : s.listening = true := by simp [State.listening, State.pipesRun, hp, hs, hx, hm, Rx.idle]
  have hf : bodyFits rq.body = true := by simp [bodyFits, Config.maxBody, hb]
  simp [State.takeRequest, s.verdict_of_idle hx, hl, hf]
  rw [← hx, State.setRx_self]

/-- A request that reaches an OUT side that hears is carried out, and that is all, where its handling leaves reception
alone. -/
theorem arrive_of_hears {s : State} (h : s.hears) (rq : Request) (hb : rq.body.length ≤ 4096)
    (handle : Request → State → State) (hr : (handle rq s).rx = s.rx) : arrive rq handle s = handle rq s := by
  simp only [arrive, h.takeRequest rq hb]
  exact State.pump_of_idle _ (hr.trans h.2.2.1)

/-- The lane byte of a lane names that lane. -/
@[simp] theorem laneByte_toNat (l : LaneId) : (laneByte l).toNat = l.val := by
  have := l.isLt
  simp [laneByte, BitVec.toNat_ofNat]
  omega

/-- R9, step 1, passed by a lane-scope request on lane `l`: the attention step and the ownership step decide. -/
theorem laneRequest_formed (access : Access) (ok : Nat → Bool) (handle : LaneId → Request → State → State)
    (o : Originator) (l : LaneId) (code tag : Byte) (body : List Byte) (s : State) (hl : ok body.length = true) :
    laneRequest access ok handle ⟨o, laneByte l, code, tag, body⟩ s =
      if access.attends = true ∧ (s.lane l).sense[o].causes ≠ 0 then
        s.refuseAttention l ⟨o, laneByte l, code, tag, body⟩
      else if access.owns = true ∧ (s.lane l).mayAct o = false then
        s.answer ⟨o, laneByte l, code, tag, body⟩ .conflict (conflictSense none)
      else handle l ⟨o, laneByte l, code, tag, body⟩ s := by
  simp [laneRequest, hl, LaneState.attentionOf]

/-- An observing lane-scope request takes neither step. -/
theorem laneRequest_observing (ok : Nat → Bool) (handle : LaneId → Request → State → State) (o : Originator)
    (l : LaneId) (code tag : Byte) (body : List Byte) (s : State) (hl : ok body.length = true) :
    laneRequest .observing ok handle ⟨o, laneByte l, code, tag, body⟩ s =
      handle l ⟨o, laneByte l, code, tag, body⟩ s := by
  simp [laneRequest_formed _ _ _ _ _ _ _ _ _ hl, Access.attends, Access.owns]

/-- A requester that passes the attention step on a lane. -/
theorem State.passes.mayAct {s : State} {o : Originator} {l : LaneId} (h : s.passes o l) :
    (s.lane l).mayAct o = true := by
  cases hc : (s.lane l).claim with
  | none => simp [LaneState.mayAct, LaneState.isHeld, hc]
  | some c => simp [LaneState.mayAct, LaneState.isHeld, LaneState.benefits, hc, h.2 c hc]

/-- An acting lane-scope request of a requester that passes both steps is handled by its block. -/
theorem laneRequest_acting (ok : Nat → Bool) (handle : LaneId → Request → State → State) (o : Originator)
    (l : LaneId) (code tag : Byte) (body : List Byte) (s : State) (hl : ok body.length = true) (h : s.passes o l) :
    laneRequest .acting ok handle ⟨o, laneByte l, code, tag, body⟩ s =
      handle l ⟨o, laneByte l, code, tag, body⟩ s := by
  have hc := h.1
  simp only [Fin.getElem_fin] at hc
  simp [laneRequest_formed _ _ _ _ _ _ _ _ _ hl, hc, h.mayAct]

/-- A claim request of a requester with no attention pending is handled by the claim table. -/
theorem laneRequest_claims (ok : Nat → Bool) (handle : LaneId → Request → State → State) (o : Originator)
    (l : LaneId) (code tag : Byte) (body : List Byte) (s : State) (hl : ok body.length = true)
    (h : (s.lane l).sense[o].causes = 0) :
    laneRequest .claims ok handle ⟨o, laneByte l, code, tag, body⟩ s =
      handle l ⟨o, laneByte l, code, tag, body⟩ s := by
  simp only [Fin.getElem_fin] at h
  simp [laneRequest_formed _ _ _ _ _ _ _ _ _ hl, h, Access.owns]

/-- A device-scope request with lane byte 255 and a body of an allowed length is handled by its block. -/
theorem deviceRequest_formed (ok : Nat → Bool) (handle : Request → State → State) (o : Originator)
    (code tag : Byte) (body : List Byte) (s : State) (hl : ok body.length = true) :
    deviceRequest ok handle ⟨o, 255, code, tag, body⟩ s = handle ⟨o, 255, code, tag, body⟩ s := by
  simp [deviceRequest, hl]

/-! ### Replies -/

/-- A GOOD reply to an acting lane-scope request, in the words of claims. -/
theorem State.goodLane_eq (s : State) (body : List Byte) (l : LaneId) (rq : Request) (h : rq.lane = laneByte l) :
    s.goodLane body l rq = s.goodReply rq.code rq.tag rq.originator l body := by
  cases rq
  simp only at h
  subst h
  rfl

/-- A refusal by a lane-scope request's own conditions, in the words of claims. -/
theorem State.refuseLane_eq (s : State) (c : Cond) (l : LaneId) (rq : Request) (h : rq.lane = laneByte l) :
    s.refuseLane c l rq = s.checkReply c rq.code rq.tag rq.originator l := by
  cases rq
  simp only at h
  subst h
  rfl

/-- A refusal by a device-scope request's own conditions, in the words of claims. -/
theorem State.refuseDevice_eq (s : State) (c : Cond) (rq : Request) (h : rq.lane = 255) :
    s.refuseDevice c rq = s.checkDevice c rq.code rq.tag rq.originator := by
  cases rq
  simp only at h
  subst h
  rfl

@[simp] theorem State.answer_rx (s : State) (rq : Request) (st : Status) (body : List Byte) :
    (s.answer rq st body).rx = s.rx := rfl
@[simp] theorem State.goodLane_rx (s : State) (body : List Byte) (l : LaneId) (rq : Request) :
    (s.goodLane body l rq).rx = s.rx := rfl
@[simp] theorem State.refuseLane_rx (s : State) (c : Cond) (l : LaneId) (rq : Request) :
    (s.refuseLane c l rq).rx = s.rx := rfl
@[simp] theorem State.refuseDevice_rx (s : State) (c : Cond) (rq : Request) : (s.refuseDevice c rq).rx = s.rx := rfl
@[simp] theorem State.goodReply_rx (s : State) (code tag : Byte) (o : Originator) (l : LaneId) (body : List Byte) :
    (s.goodReply code tag o l body).rx = s.rx := rfl
@[simp] theorem State.checkReply_rx (s : State) (c : Cond) (code tag : Byte) (o : Originator) (l : LaneId) :
    (s.checkReply c code tag o l).rx = s.rx := rfl

end Sys2Proof.Machine
end

