-- ==== Sys2Proof/Tests/Slice0.lean ====
section
/-! SUPPORT. Tests. Well-formedness refuses an ill-formed term for each check; single steps give what the spec's worked
sequences and tables say (each test names its source); and every statement of Certificates/Slice0/Obligations.lean that
has hypotheses has a witness here, for each of its clauses, at a boundary value where the clause has a range. -/

namespace Sys2Proof.Tests

open Sys2Proof Sys2Proof.Machine

/-! ### Small states -/

/-- The part after reset, CONFIGURED, with every attention cause cleared. -/
def base : State :=
  { State.reset with
    port := .configured
    lanes := Vector.ofFn fun i => { State.reset.lanes[i] with sense := Vector.replicate 8 ⟨none, 0, 0⟩ } }

/-- That state with lane 0 changed. -/
def put (f : LaneState → LaneState) : State := base.onLane 0 f

/-- The state after a command that completes. -/
def after (i : Instr) (s : State) : State :=
  match exec i s with
  | .next t => t
  | .fault _ => s
  | .refused _ => s

/-- A lane whose phone is seated and UP at high speed. -/
def upLane (L : LaneState) : LaneState :=
  { L with
    link := { L.link with
      state := .up, line := true, connectPresent := true, highSpeed := true, epoch := 7
      address := 1, function := some ⟨1, 1, 2⟩ }
    nest := ⟨true, true, none⟩ }

/-- A lane that originator 1 holds for originator 2. -/
def heldLane (L : LaneState) : LaneState := { L with claim := some ⟨1, 2, 5⟩ }

/-- A lane whose link is in a state. -/
def linkIn (k : LinkState) (L : LaneState) : LaneState := { L with link := { L.link with state := k } }

/-- A lane with these strokes. -/
def strokesIn (k : StrokeState) (queue : List Step) (L : LaneState) : LaneState :=
  { L with strokes := { L.strokes with state := k, queue := queue } }

/-- A send record of originator 2 with `n` data bytes. -/
def sendOf (tag : Byte) (n : Nat) (chain : Bool) : SendRecord := ⟨2, tag, chain, List.replicate n 0, 7⟩

/-- A packet record with `n` data bytes. -/
def packetOf (n : Nat) (urgent : Bool) : PacketRecord := ⟨List.replicate n 0, 0, 0, false, urgent, false, 0⟩

/-- A window armed with a trigger, of two samples. -/
def windowOf (t : Trigger) : WindowParams := ⟨t, 1, 0, 2, 0, true⟩

theorem hears_put (f : LaneState → LaneState) (h : 0 < (put f).freeEntries) : (put f).hears := ⟨rfl, rfl, rfl, h, rfl⟩

theorem hears_base : base.hears := ⟨rfl, rfl, rfl, by decide, rfl⟩

theorem passes_of_free {s : State} {o : Originator} {l : LaneId} (h : (s.lane l).sense[o].causes = 0)
    (hc : (s.lane l).claim = none) : s.passes o l := ⟨h, fun c h2 => by rw [hc] at h2; cases h2⟩

theorem passes_of_served {s : State} {o : Originator} {l : LaneId} {c : Claim} (h : (s.lane l).sense[o].causes = 0)
    (hc : (s.lane l).claim = some c) (hb : c.beneficiary = o) : s.passes o l :=
  ⟨h, fun d h2 => by rw [hc] at h2; cases h2; exact hb⟩

/-! ### Well-formedness refuses an ill-formed term for each check -/

theorem test_wellFormed_packet_over_512 : (Instr.outDataPacket (List.replicate 513 0)).wellFormed = false := by decide +kernel

theorem test_wellFormed_packet_of_512 : (Instr.outDataPacket (List.replicate 512 0)).wellFormed = true := by decide +kernel

theorem test_wellFormed_body_over_4096 : (Instr.sendPacket 0 0 0 (List.replicate 4097 0)).wellFormed = false := by decide +kernel

theorem test_wellFormed_unknown_that_names_a_request : (Instr.unknownRequest 0 0 0x20 0 []).wellFormed = false := by
  decide

theorem test_wellFormed_unknown_over_4096 : (Instr.unknownRequest 0 0 0x42 0 (List.replicate 4097 0)).wellFormed = false := by decide +kernel

/-! ### Single steps against the spec's worked sequences and tables -/

/-- The CRC of R3 (polynomial 0x1021, initial value 0xFFFF, no reflection, no inversion) over one byte 0x00, by hand:
0xFFFF with the first byte's bits run through the polynomial gives 0xE1F0. -/
theorem test_crc_of_zero : crc16 [0] = 0xE1F0 := by decide

/-- Section 3.1's table: the last length of each cell count and the first of the next. -/
theorem test_cells_table :
    [0, 112, 113, 368, 369, 1008, 1009, 1024].map cellsOf = [1, 1, 2, 3, 4, 8, 9, 9] := by decide

/-- The lane of section 4.10: A in flight, then B, C and D. -/
def chainLane (L : LaneState) : LaneState :=
  { upLane L with
    link := { (upLane L).link with out := .sending ⟨sendOf 0x10 200 true, 1, 0, 500⟩ 1000 }
    send := ⟨[sendOf 0x11 600 true, sendOf 0x12 100 false, sendOf 0x13 900 false], false⟩
    claim := some ⟨2, 2, 0⟩ }

/-- That lane, with 120 downstream cells held. -/
def chainState : State := { put chainLane with downHeld := 120 }

/-- Section 4.10: the phone STALLs A; residuals 2, 1 and 2, and d falls to 112. -/
theorem test_chain_replies :
    ((after (.outTransactionDone 0 .stall) chainState).ready.map fun r => (r.tag, r.body)) =
        [(0x10, [6, 1, 2, 0]), (0x11, [4, 2, 1, 0]), (0x12, [4, 2, 2, 0])] ∧
      (after (.outTransactionDone 0 .stall) chainState).downHeld = 112 := by decide +kernel

/-- Section 4.10: D stays queued, the halt is set, and originator 2's record holds SEND_STALLED with further count 2. -/
theorem test_chain_lane :
    ((after (.outTransactionDone 0 .stall) chainState).lane 0).send.halted = true ∧
      (((after (.outTransactionDone 0 .stall) chainState).lane 0).send.queue.map fun r => r.tag) = [0x13] ∧
      ((after (.outTransactionDone 0 .stall) chainState).lane 0).sense[2].further = 2 := by decide

/-- Section 2.14: send A succeeds on attempt 3: retry count 2, and the reply is GOOD with report-recovered off. -/
theorem test_retried_success :
    let s := put fun L => { upLane L with link := { (upLane L).link with out := .sending ⟨sendOf 0x40 300 false, 3, 0, 500⟩ 9 } }
    (after (.outTransactionDone 0 .accepted) s).ready = [⟨2, 0, 0x20, 0x40, .good, [7, 0, 2]⟩] ∧
      ((after (.outTransactionDone 0 .accepted) s).lane 0).link.recovered = 2 := by decide +kernel

/-- Section 2.14: the fourth transport error in a row is a link fault, and the send ends LINK_LOST. -/
theorem test_link_fault :
    let s := put fun L => { upLane L with
      link := { (upLane L).link with out := .sending ⟨sendOf 0x41 9 false, 2, 0, 500⟩ 9, errorCount := 3 }
      claim := some ⟨2, 2, 0⟩ }
    let t := after (.outTransactionDone 0 .transportError) s
    t.ready = [⟨2, 0, 0x20, 0x41, .check, [7, 1, 0xFF, 0xFF]⟩] ∧
      (t.lane 0).link.state.code = 3 ∧ (t.lane 0).link.errorCount = 0 ∧ (t.lane 0).sense[2].further = 1 := by decide

/-- R38: 512 data bytes at high speed need a second, empty data packet, with the send timer restarted. -/
theorem test_whole_multiple_needs_empty_packet :
    ((after (.outTransactionDone 0 .accepted) (put fun L => { upLane L with
      link := { (upLane L).link with out := .sending ⟨sendOf 1 512 false, 1, 0, 500⟩ 9 } })).lane 0).link.out =
      .sending ⟨sendOf 1 512 false, 1, 1, 500⟩ 500000 := by decide +kernel

/-- The lane of section 5.10, with a sequence number, cap 20, H 20, L 11 and 14 cells in a frame slot. -/
def arrivalLane (seq : BitVec 16) (occ : Nat) (queue : List PacketRecord) (drops : Nat) (L : LaneState) : LaneState :=
  { upLane L with
    options := { L.options with cap := 20, high := 20, low := 11, packTimer := 20 }
    upstream := { L.upstream with seq := seq, queue := queue, drops := drops, packTimer := some 500 }
    occupancy := occ, claim := some ⟨3, 3, 0⟩ }

/-- Section 5.10 at 0 µs: admitted, three cells, and the timer starts for 2 ms. -/
theorem test_arrival_admitted :
    let t := (put (arrivalLane 40 14 [] 0)).arrival (List.replicate 300 0x10) 300 0
    (t.lane 0).occupancy = 17 ∧ (t.lane 0).upstream.seq = 41 ∧ (t.lane 0).upstream.packTimer = some 2000 ∧
      (t.lane 0).upstream.eligible = false := by decide +kernel

/-- Section 5.10 at 900 µs: the packet takes its sequence number and is an overrun, recorded with residual 42. -/
theorem test_arrival_overrun :
    let t := (put (arrivalLane 42 18 [packetOf 300 false] 0)).arrival (List.replicate 300 0x10) 300 0
    (t.lane 0).occupancy = 18 ∧ (t.lane 0).upstream.seq = 43 ∧ (t.lane 0).upstream.drops = 1 ∧
      (t.lane 0).sense[3].held.map Held.cond = some (.upstreamOverrun 42) := by decide +kernel

/-- Section 5.10 at 1500 µs: an URGENT packet carries drops-before 1, and makes the lane eligible. -/
theorem test_arrival_urgent :
    let t := ({ put (arrivalLane 43 18 [packetOf 300 false] 1) with classes := State.reset.classes.set 0x7E .urgent } : State).arrival
      (List.replicate 80 0x7E) 80 0
    (t.lane 0).occupancy = 19 ∧ ((t.lane 0).upstream.queue.map PacketRecord.dropsBefore) = [0, 1] ∧
      (t.lane 0).upstream.eligible = true ∧ (t.lane 0).upstream.packTimer = none := by decide

/-- Section 5.10 at 300 µs: 700 bytes are over the limit of 512 and are discarded as damaged. -/
theorem test_arrival_damaged :
    (((put (arrivalLane 41 17 [] 0)).arrival (List.replicate 700 0x10) 700 0).lane 0).upstream.damaged = 1 := by decide

/-- Section 3.10 step 6: five of the 708-byte records fit a frame of 4096 bytes. -/
theorem test_takeRecords_five : (takeRecords 4096 (List.replicate 10 (packetOf 700 false))).1.length = 5 := by decide +kernel

/-- Section 3.11 request 1: cap 8 becomes 16 and then 40, H 40, L 31, and the lane is flow-held. -/
theorem test_options_clamped :
    let t := after (.setLaneOptions 0 0 1 ([0x10, 0, 0, 0, 0, 0, 0, 0, 8] ++ List.replicate 12 0))
      (put fun L => { L with occupancy := 40 })
    (t.lane 0).options.cap = 40 ∧ (t.lane 0).options.high = 40 ∧ (t.lane 0).options.low = 31 ∧ (t.lane 0).flowHeld = true := by
  decide

/-- Section 5.12, frame 9: the run count is 8, so the normal candidate, lane 5, is chosen although lane 1 waits. -/
theorem test_choice_after_eight :
    let s : State := ({ base with runCount := 8, prioPointer := 2 }.onLane 1 fun L =>
      { heldLane L with upstream := { L.upstream with eligible := true }, options := { L.options with priority := true } }).onLane 5
        fun L => { heldLane L with upstream := { L.upstream with eligible := true } }
    s.chooseLane.map (fun x => (x.1, x.2.runCount)) = some (5, 0) := by decide

/-- The lane of section 8.9 before its sample at 502,250: run 2 of 3, window C with eight samples. -/
def tripLane (L : LaneState) : LaneState :=
  { L with
    claim := some ⟨6, 6, 0⟩
    nest := ⟨true, true, none⟩
    supply := { L.supply with
      state := .on, tripLevel := 1800, tripCount := 3, blanking := 4, blankCount := 4, tripRun := 2
      active := .measuring ⟨.supplyOn, 0, 0, 400, 0, true⟩ ⟨8, 15850, some 1200, some 3100, none⟩
      nextSample := some 0 } }

/-- Section 8.9: the trip, the aborted window's result with mean 1994, and OVERCURRENT with residual 2100. -/
theorem test_trip :
    let t := after (.sampleEvent 0 2100) (put tripLane)
    (t.lane 0).supply.state = .tripped ∧
      (t.lane 0).supply.result.map (fun r => (r.done, r.figures.samples, r.figures.sum, r.figures.mean)) =
        some (false, 9, 17950, some 1994) ∧
      (t.lane 0).sense[6].held.map Held.cond = some (.overcurrent 2100) := by decide

/-- Section 9.8 at 7501 ms: S3 shares A with S2 and has TIE clear, so both keys are lifted for 30 ms. -/
theorem test_release_gap :
    let t := after (.stepEnd 0) (put fun L => { L with strokes := { L.strokes with
      state := .step ⟨true, true, 500, true⟩ 0, keyA := true, keyB := true, queue := [⟨true, false, 200, false⟩] } })
    (t.lane 0).strokes.state = .gap 30000 ∧ (t.lane 0).strokes.keyA = false ∧ (t.lane 0).strokes.keyB = false := by decide

/-- Section 9.8 at 7531 ms: S3 starts as step 3, the count reaches the low mark 2, and the STROKE_STEP 3 window fires. -/
theorem test_step_start :
    let t := after (.releaseGapEnd 0) (put fun L => { L with
      strokes := { L.strokes with
        state := .gap 0, stepNumber := 2, lowArmed := true
        queue := [⟨true, false, 200, false⟩, ⟨false, false, 1000, false⟩, ⟨false, true, 100, false⟩] }
      supply := { L.supply with active := .armed ⟨.strokeStep, 3, 0, 4, 0, true⟩ } })
    (t.lane 0).strokes.stepNumber = 3 ∧ (t.lane 0).strokes.keyA = true ∧ (t.lane 0).strokes.lowArmed = false ∧
      (t.lane 0).supply.active.code = 3 := by decide

/-- Section 9.8: a START_STROKES at 4,000,350 µs has its start instant at 4,001,000. -/
theorem test_start_instant :
    ((after (.startStrokes 0 255 1 [1, 0, 0])
      { put (fun L => { strokesIn .idle [⟨true, false, 5, false⟩] L with nest := ⟨true, true, none⟩ }) with
        timebase := 4000350 }).lane 0).strokes.state = .pending 4001000 650 := by decide

/-- Section 7.10: causes 4 and 10 on lanes 9 and 12 are refused with code 14 and residual 9. -/
theorem test_group_attention :
    (after (.startStrokes 1 255 5 [0x10, 0x12, 0])
      ((base.onLane 9 fun L => { L with sense := L.sense.set 1 ⟨none, 0, 4⟩ }).onLane 12 fun L =>
        { L with sense := L.sense.set 1 ⟨none, 0, 10⟩ })).ready = [⟨1, 255, 9, 5, .check, [9, 14, 9, 0]⟩] := by decide

/-- R31: the answer of section 2.13, n = 6 and m = 9, total 22 bytes, is valid; one byte more is not. -/
theorem test_identity_lengths :
    (parseIdentity ([0xF1, 1, 0, 2, 0, 6] ++ List.replicate 6 0x41 ++ [9] ++ List.replicate 9 0x42) 22).isSome = true ∧
      parseIdentity ([0xF1, 1, 0, 2, 0, 6] ++ List.replicate 6 0x41 ++ [9] ++ List.replicate 10 0x42) 23 = none := by decide

/-- R30: the identity request is the one byte 0xF0, to address 1 and the OUT endpoint. -/
theorem test_identity_request_bytes :
    ((put fun L => linkIn (.attaching ⟨9, .identifying .request none⟩) (upLane L)).lane 0).link.outTransaction =
      some ⟨1, 1, false, [0xF0]⟩ := by decide

/-- R38: 600 bytes at high speed are 512 and 88; 512 bytes are 512 and an empty data packet. -/
theorem test_data_packets :
    ((dataPacket 512 (List.replicate 600 7) 0).length = 512 ∧ dataPacket 512 (List.replicate 600 7) 1 = List.replicate 88 7) ∧
      dataPackets 600 512 = 2 ∧ dataPackets 512 512 = 2 ∧ dataPacket 512 (List.replicate 512 7) 1 = [] := by decide +kernel

/-- R36: a data packet that repeats the one before it, known by its toggle, is taken once. -/
theorem test_repeated_packet :
    let s := put fun L => { upLane L with link := { (upLane L).link with inn := .polling Poll.fresh } }
    let t := after (.inTransactionDone 0 (.data false (List.replicate 512 7))) s
    ((t.lane 0).link.inToggle = true ∧ (t.lane 0).link.inn.reading.map Poll.count = some 512) ∧
      ((after (.inTransactionDone 0 (.data false (List.replicate 512 7))) t).lane 0).link.inn = (t.lane 0).link.inn := by
  decide +kernel

/-- R41, R42, R58: a lane that has come to be flow-held goes to IDLE at the end of the wait after a transport error; the poll
under way runs to its end there, and its packet is admitted. -/
theorem test_held_lane_ends_its_poll :
    let held := after (.pollWaitEnd 0) (put fun L => { upLane L with
      flowHeld := true
      link := { (upLane L).link with inn := .pollWait 9 (some ⟨[1], 1, some 99⟩) } })
    let done := after (.inTransactionDone 0 (.data false [2])) held
    (held.lane 0).link.inn.code = 0 ∧ after (.pollIssue 0) held = held ∧
      (done.lane 0).link.inn = .idle none ∧ (done.lane 0).upstream.queue.map PacketRecord.data = [[1, 2]] := by
  decide +kernel

/-- R29: the second configuration's second interface is the first diagnostic function; its endpoints become the lane's. -/
theorem test_function_selected :
    enumNext 64 (.configuration 1 2) (.configuration 5
        [⟨0xFF, 0x4D, 0x02, [⟨1, 512⟩], [⟨2, 64⟩]⟩, ⟨0xFF, 0x4D, 0x02, [⟨3, 64⟩], [⟨4, 64⟩]⟩]) = .stage (.select ⟨5, 3, 4⟩) ∧
      ((after (.enumerationTransferDone 0 .selected) (put (linkIn (.attaching ⟨9, .enumerating (.select ⟨5, 3, 4⟩) none⟩)))).lane
        0).link.function = some ⟨5, 3, 4⟩ := by decide

/-- R135: a supply past its blanking of 4 is judged at the next sample although SET_TRIP has raised Bk to 100. -/
theorem test_set_trip_past_blanking :
    let s := put fun L => { tripLane L with claim := none }
    let t := after (.setTrip 0 0 1 [0x08, 0x07, 1, 100]) s
    (t.lane 0).supply.blankCount = 4 ∧ ((after (.sampleEvent 0 2100) t).lane 0).supply.state = .tripped := by decide

/-- Section 1.2: the NOTICE of originator 2 with event LINK_DOWN of lane 3 at 0x01020304, less its CRC. -/
theorem test_notice_bytes :
    (frameBytes (.notice 2 [(3, ⟨2, 0x01020304⟩)])).take 18 =
      [0x5A, 0xC3, 0x82, 2, 255, 0, 0, 0, 8, 0, 1, 3, 2, 0, 4, 3, 2, 1] := by decide

/-- R5: a frame of kind 0x02 is judged to be discarded, and the OUT side then takes the byte behind it. -/
theorem test_discard_in_the_stream :
    let s := after (.outDataPacket (stationFrame 0x02 0 0 0x13 1 0 [] ++ [0x5A])) base
    s.verdict = some .discard ∧ (after (.frameDiscarded []) s).rx = ⟨true, .hunt, [0x5A], []⟩ := by decide +kernel

/-- R20: the timebase wraps. -/
theorem test_timebase_wraps : (({ base with timebase := 0xFFFFFFFF } : State).advance 1).timebase = 0 := by decide

/-- R132: the sample at 4,294,967,250 is followed 46 µs later by the sample at 0. -/
theorem test_sample_before_the_wrap : toNextSample 4294967250 = 46 := by decide

/-! ### Witnesses: steps, reception and the request checks -/

theorem witness_StepRunsFrontCommand :
    ({ base with pending := [.resume, .suspend] } : State).pending = .resume :: [.suspend] ∧ base.pending = [] := by decide

theorem witness_RequestFrameIsReceived :
    (List.replicate 4096 (0 : Byte)).length ≤ 4096 ∧ Rx.idle.phase = .hunt ∧ Rx.idle.got = [] ∧
      (Rx.idle.begun || true) = true := by decide +kernel

/-- A full reply store. -/
def fullStore : State := { base with ready := List.replicate 448 ⟨0, 0, 0, 0, .good, []⟩ }

theorem witness_StationPipesCarryBytes :
    (base.port = .configured ∧ base.suspended = false ∧ base.rx.buf = [] ∧ (List.replicate 512 (0 : Byte)).length ≤ 512) ∧
      ((base.setRx (Rx.idle.withBuf [1])).rx.buf ≠ [] ∧ State.reset.port ≠ .configured ∧
        ({ base with suspended := true } : State).suspended = true) ∧
      Rx.run true Rx.idle [0x5A, 0xC3] = (⟨true, .header, [0x5A, 0xC3], []⟩, []) ∧
      (fullStore.rx = Rx.idle ∧ fullStore.freeEntries = 0 ∧ (List.replicate 511 (0 : Byte)).length < 512) ∧
      ({ base with resetPending := true } : State).resetPending = true ∧
      ((base.setRx (Rx.idle.withBuf [1, 2])).rx = Rx.idle.withBuf [1, 2] ∧ 0 < (base.setRx (Rx.idle.withBuf [1, 2])).freeEntries ∧
        (base.setRx (Rx.idle.withBuf [1, 2])).resetPending = false) := by decide +kernel

/-- A LANE_STATUS request for lane 23. -/
def statusRequest : Request := ⟨7, 23, 0x13, 1, []⟩

/-- The part when the last byte of that request's frame stands next, with a byte of the next frame behind it. -/
def lastByteNext : State :=
  base.setRx ⟨true, .crc, (requestFrame statusRequest).dropLast, [(requestFrame statusRequest).getLast!, 0x5A]⟩

theorem witness_RequestFromTheByteStream :
    requestOf (.laneStatus 7 23 1 []) = some statusRequest ∧ statusRequest.body.length ≤ 4096 ∧
      lastByteNext.port = .configured ∧ lastByteNext.suspended = false ∧ 0 < lastByteNext.freeEntries ∧
      lastByteNext.resetPending = false ∧ lastByteNext.verdict = some (.request statusRequest) := by decide +kernel

/-- The part when the last byte of a frame of kind 0x02 stands next, with a byte of the next frame behind it. -/
def badByteNext : State :=
  base.setRx ⟨true, .crc, (stationFrame 0x02 0 0 0x13 1 0 []).dropLast, [(stationFrame 0x02 0 0 0x13 1 0 []).getLast!, 0x5A]⟩

theorem witness_discarded_in_the_stream : badByteNext.verdict = some .discard := by decide +kernel

theorem witness_discardsFrame :
    Rx.idle.phase = .hunt ∧ Rx.idle.got = [] ∧ (Rx.idle.begun || true) = true := by decide

theorem witness_DiscardedFrameLeavesNoTrace :
    base.hears ∧ ((0x02 : Byte) ≠ 0x01 ∧ 7 < (8 : Byte).toNat) ∧
      (0 : Byte).toNat + 256 * (0 : Byte).toNat ≠ (crc16 (frameHead 1 0 0 0x13 0 0 [])).toNat ∧
      ([1, 0, 0, 0x20, 0, 0] : List Byte).length = 6 ∧ 4096 < (1 : Byte).toNat + 256 * (16 : Byte).toNat :=
  ⟨hears_base, by decide, by decide +kernel, by decide, by decide⟩

theorem witness_IllFormedRequestsRefused :
    base.hears ∧
      (requestOf (.unknownRequest 0 0 0x42 1 []) = some ⟨0, 0, 0x42, 1, []⟩ ∧
        (⟨0, 0, 0x42, 1, []⟩ : Request).formFault = some .unknownRequest) ∧
      ((⟨0, 24, 0x13, 1, []⟩ : Request).formFault = some .badLane ∧ (⟨0, 23, 0x13, 1, []⟩ : Request).formFault = none) ∧
      ((⟨0, 254, 0x01, 1, []⟩ : Request).formFault = some .badLane ∧ (⟨0, 255, 0x01, 1, []⟩ : Request).formFault = none) ∧
      ((⟨0, 0, 0x20, 1, []⟩ : Request).formFault = some .badLength ∧
        (⟨0, 0, 0x20, 1, [0]⟩ : Request).formFault = none ∧
        (⟨0, 0, 0x38, 1, [0, 0, 0, 0, 0]⟩ : Request).formFault = some .badLength) :=
  ⟨hears_base, by decide, by decide, by decide, by decide⟩

/-- Lane 0 with attention pending for every originator, as a device reset leaves it. -/
def attending (L : LaneState) : LaneState := { L with sense := Vector.replicate 8 ⟨none, 0, 1⟩ }

theorem witness_AttentionRefusesAndClears :
    (put attending).hears ∧ requestOf (.linkReset 3 (laneByte 0) 1 []) = some ⟨3, laneByte 0, 0x23, 1, []⟩ ∧
      (⟨3, laneByte 0, 0x23, 1, []⟩ : Request).formFault = none ∧
      requestRow 0x23 = some ⟨false, true, false, 0, 0, 1⟩ ∧ ((put attending).lane 0).sense[3].causes ≠ 0 :=
  ⟨hears_put _ (by decide), by decide, by decide, by decide, by decide⟩

theorem witness_ConflictOnAnothersLane :
    (put heldLane).hears ∧ requestOf (.linkReset 3 (laneByte 0) 1 []) = some ⟨3, laneByte 0, 0x23, 1, []⟩ ∧
      (⟨3, laneByte 0, 0x23, 1, []⟩ : Request).formFault = none ∧
      requestRow 0x23 = some ⟨false, true, false, 0, 0, 1⟩ ∧ ((put heldLane).lane 0).sense[3].causes = 0 ∧
      ((put heldLane).lane 0).claim = some ⟨1, 2, 5⟩ ∧ (2 : Originator) ≠ 3 :=
  ⟨hears_put _ (by decide), by decide, by decide, by decide, by decide, by decide, by decide⟩

/-! ### Witnesses: the port, the resets, the arbiter -/

theorem witness_PortEntries :
    (({ base with port := .unconfigured } : State).port = .unconfigured ∧
        ({ base with port := .unconfigured } : State).suspended = false) ∧
      (({ base with port := .detached } : State).port = .detached ∧
        ({ base with port := .detached } : State).hardReset = false) ∧ base.port ≠ .detached := by decide

theorem witness_LeavingConfiguredRestartsLink :
    base.port = .configured ∧ base.resetPending = false ∧ base.suspended = false := by decide

/-- A DEVICE_RESET whose GOOD reply is being sent. -/
def resetReplySent : State :=
  { base with resetPending := true, transmitting := some (.reply ⟨0, 255, 0x02, 1, .good, []⟩) }

theorem witness_DeviceResetWaitsForItsReply :
    base.hears ∧
      (resetReplySent.port = .configured ∧ resetReplySent.suspended = false ∧ resetReplySent.resetPending = true ∧
        resetReplySent.transmitting = some (.reply ⟨0, 255, 0x02, 1, .good, []⟩)) :=
  ⟨hears_base, by decide⟩

theorem witness_HardResetAndRelease : ({ base with hardReset := true } : State).hardReset = true := by decide

/-- Originator 0, the next after originator 7, has an event gathered for lane 3. -/
def gatheredState : State :=
  base.onOriginator 0 fun q => { q with accumulator := q.accumulator.set 3 (some ⟨1, 9⟩) }

theorem gatheredState_wants : NextAfter gatheredState.served gatheredState.wantsNotice 0 :=
  ⟨0, by decide, by decide, ⟨⟨3, by decide⟩, by decide, fun e => ⟨nofun, nofun⟩⟩, fun j h => absurd h (Nat.not_lt_zero j)⟩

/-- Lane 0 HELD and eligible with one packet. -/
def eligibleLane (L : LaneState) : LaneState :=
  { heldLane L with upstream := { L.upstream with queue := [packetOf 1024 false], eligible := true }, occupancy := 9 }

theorem base_wants_none (o : Originator) : ¬ base.wantsNotice o := by
  have h : ∀ (o : Originator) (p : Fin 25), (base.orig o).accumulator[p] = none := by decide
  exact fun hw => hw.1.elim fun p hp => hp (h o p)

theorem witness_FrameBuildServesSourcesInOrder :
    (State.reset.port ≠ .configured ∧ ({ base with suspended := true } : State).suspended = true ∧
        ({ base with transmitting := some (.notice 0 []), staged := some (.notice 1 []) } : State).transmitting ≠ none ∧
        ({ base with transmitting := some (.notice 0 []), staged := some (.notice 1 []) } : State).staged ≠ none) ∧
      (base.port = .configured ∧ base.suspended = false ∧ base.transmitting = none) ∧
      ({ base with ready := [⟨0, 0, 0, 0, .good, []⟩] } : State).ready = ⟨0, 0, 0, 0, .good, []⟩ :: [] ∧
      (gatheredState.ready = [] ∧ NextAfter gatheredState.served gatheredState.wantsNotice 0) ∧
      ((put eligibleLane).ready = [] ∧
        ∃ t, (put eligibleLane).chooseLane = some (0, t) ∧ ((put eligibleLane).lane 0).claim = some ⟨1, 2, 5⟩) ∧
      (base.ready = [] ∧ (∀ o, ¬ base.wantsNotice o) ∧ base.chooseLane = none) :=
  ⟨by decide, by decide, by decide, ⟨by decide, gatheredState_wants⟩, ⟨by decide, _, rfl, by decide⟩,
    by decide, base_wants_none, by decide⟩

theorem witness_DataUpTakesTheHeadOfTheQueue :
    [packetOf 1024 true, packetOf 0 false] ≠ [] ∧
      ∀ p ∈ [packetOf 1024 true, packetOf 0 false], p.data.length ≤ 1024 := by decide +kernel

/-- Lane 1 a normal candidate, lane 2 a priority candidate. -/
def twoCandidates (run : Nat) : State :=
  ({ base with runCount := run }.onLane 1 eligibleLane).onLane 2 fun L =>
    { eligibleLane L with options := { L.options with priority := true } }

theorem candidate_intro {s : State} {b : Bool} {l : LaneId} (h : (s.lane l).candidate b = true) : s.isCandidate b l := by
  simp [LaneState.candidate, LaneState.isHeld, Option.isSome_iff_ne_none] at h
  exact ⟨h.1.1, h.1.2, h.2⟩

theorem not_candidate_intro {s : State} {b : Bool} {l : LaneId} (h : (s.lane l).candidate b = false) :
    ¬ s.isCandidate b l := by
  rintro ⟨h1, h2, h3⟩
  simp [LaneState.candidate, LaneState.isHeld, h1, h2, h3] at h

theorem witness_LaneChoiceAlternatesClasses :
    (NextAfter (twoCandidates 8).normPointer ((twoCandidates 8).isCandidate false) 1 ∧ 8 ≤ (twoCandidates 8).runCount) ∧
      (NextAfter (twoCandidates 7).prioPointer ((twoCandidates 7).isCandidate true) 2 ∧ (twoCandidates 7).runCount < 8) ∧
      ∀ (b : Bool) (l : LaneId), ¬ base.isCandidate b l := by
  refine ⟨⟨⟨1, by decide, by decide, candidate_intro (by decide), fun j hj => ?_⟩, by decide⟩,
    ⟨⟨2, by decide, by decide, candidate_intro (by decide), fun j hj => ?_⟩, by decide⟩,
    fun b l => not_candidate_intro ?_⟩
  · obtain rfl : j = 0 := by omega
    exact not_candidate_intro (by decide)
  · obtain rfl | rfl : j = 0 ∨ j = 1 := by omega
    · exact not_candidate_intro (by decide)
    · exact not_candidate_intro (by decide)
  · have h : ∀ (l : LaneId), (base.lane l).claim = none := by decide
    simp [LaneState.candidate, LaneState.isHeld, h l]

theorem witness_InTransferDoneEffects :
    (({ base with transmitting := some (.reply ⟨0, 0, 0x13, 0, .good, []⟩) } : State).transmitting =
        some (.reply ⟨0, 0, 0x13, 0, .good, []⟩) ∧ base.resetPending = false) ∧
      ({ base with transmitting := some (.notice 3 []) } : State).transmitting = some (.notice 3 []) ∧
      ({ base with transmitting := some (.dataUp 3 23 [packetOf 1 false]) } : State).transmitting =
        some (.dataUp 3 23 [packetOf 1 false]) ∧
      ((base.onOriginator 4 fun q => { q with pacing := some 0 }).orig 4).pacing = some 0 := by decide

/-! ### Witnesses: device-scope requests -/

theorem witness_DeviceStatusReports : base.hears := hears_base

theorem base_memoryUnused : base.memoryUnused :=
  ⟨by decide, fun _ _ _ => ⟨nofun, nofun⟩⟩

theorem witness_ConfigurePoolSplits :
    base.hears ∧ (2048 - max 256 (min 1792 1792) / 64 * 64 < 24 * min 32 32) ∧
      (24 * min 16 32 ≤ 2048 - max 256 (min 768 1792) / 64 * 64 ∧ ¬ (put eligibleLane).memoryUnused) ∧ base.memoryUnused :=
  ⟨hears_base, by decide, ⟨by decide, fun h => by have := (h.1 0).2; revert this; decide⟩, base_memoryUnused⟩

theorem witness_ClassTableRequests :
    base.hears ∧ ([ClassAction.count] ≠ [] ∧ (List.replicate 256 ClassAction.urgent).length ≤ 256) ∧
      (∃ a ∈ ([3, 4] : List Byte), 3 < a.toNat) ∧ ([1] : List Byte).length < 2 ∧
      257 < (List.replicate 258 (0 : Byte)).length ∧ ([1, 2] : List Byte).length ≠ 3 :=
  ⟨hears_base, by decide +kernel, by decide, by decide, by decide +kernel, by decide⟩

theorem witness_NoticeRequests :
    base.hears ∧ (64 ≤ (64 : Byte).toNat ∧ 1 < (2 : Byte).toNat) ∧ (63 : Byte).toNat < 64 ∧ (1 : Byte).toNat ≤ 1 :=
  ⟨hears_base, by decide, by decide, by decide⟩

/-- Lane 0 seated with a step queued. -/
def startable (L : LaneState) : LaneState :=
  { strokesIn .idle [⟨true, false, 5, false⟩] L with nest := ⟨true, true, none⟩ }

/-- Originator 0 names lane 0 (byte 0 is 1) or no lane; each test of START_STROKES fails on one of these lanes, and all of
them pass on the last. -/
theorem witness_StartStrokesActsOnAllOrNone :
    (put attending).hears ∧ (put heldLane).hears ∧ (put startable).hears ∧
      (∀ l : LaneId, ¬ (0 + 256 * 0 + 65536 * 0).testBit l.val = true) ∧
      Lowest (fun k : LaneId => (1 + 256 * 0 + 65536 * 0).testBit k.val = true ∧ ((put attending).lane k).sense[(0 : Originator)].causes ≠ 0) 0 ∧
      Lowest (fun k : LaneId => (1 + 256 * 0 + 65536 * 0).testBit k.val = true ∧
        ∃ c, ((put heldLane).lane k).claim = some c ∧ c.beneficiary ≠ (0 : Originator)) 0 ∧
      Lowest (fun k : LaneId => (1 + 256 * 0 + 65536 * 0).testBit k.val = true ∧
        ((base.lane k).strokes.state ≠ .idle ∨ (base.lane k).strokes.queue = [])) 0 ∧
      Lowest (fun k : LaneId => (1 + 256 * 0 + 65536 * 0).testBit k.val = true ∧
        ((put (strokesIn .idle [⟨true, false, 5, false⟩])).lane k).nest.seated = false) 0 ∧
      ((put startable).lane 0).nest.seated = true ∧ ((put startable).lane 0).strokes.state = .idle ∧
      ((put startable).lane 0).strokes.queue ≠ [] ∧ ((put startable).lane 0).claim = none ∧
      ((put startable).lane 0).sense[(0 : Originator)].causes = 0 :=
  ⟨hears_put _ (by decide), hears_put _ (by decide), hears_put _ (by decide), by simp,
    ⟨by decide, fun k hk => absurd hk (Fin.not_lt_zero k)⟩,
    ⟨⟨by decide, _, rfl, by decide⟩, fun k hk => absurd hk (Fin.not_lt_zero k)⟩,
    ⟨by decide, fun k hk => absurd hk (Fin.not_lt_zero k)⟩,
    ⟨by decide, fun k hk => absurd hk (Fin.not_lt_zero k)⟩, by decide⟩

theorem witness_SenseRequestsReportAndClear : base.hears := hears_base

/-! ### Witnesses: lane-scope requests -/

/-- Originator 1 holds lane 0 for itself. -/
def ownLane (L : LaneState) : LaneState := { L with claim := some ⟨1, 1, 5⟩ }

theorem base_passes (o : Originator) (l : LaneId) : base.passes o l := by
  have h : ∀ (l : LaneId) (o : Originator), (base.lane l).sense[o].causes = 0 ∧ (base.lane l).claim = none := by decide
  exact passes_of_free (h l o).1 (h l o).2

theorem witness_ClaimLaneTakesOrRepoints :
    base.hears ∧ (put heldLane).hears ∧ (base.lane 0).sense[(1 : Originator)].causes = 0 ∧
      (([] : List Byte) = [] ∧ (1 : Originator) = 1) ∧ (∃ b : Byte, [b] = ([7] : List Byte) ∧ b.toNat = (7 : Originator).val) ∧
      (base.lane 0).claim = none ∧ ((put heldLane).lane 0).claim = some ⟨1, 2, 5⟩ ∧
      ((put heldLane).lane 0).sense[(1 : Originator)].causes = 0 ∧ (2 : Originator) ≠ 1 ∧ 7 < (8 : Byte).toNat :=
  ⟨hears_base, hears_put _ (by decide), by decide, by decide, ⟨7, rfl, rfl⟩, by decide, by decide, by decide, by decide,
    by decide⟩

theorem witness_YieldAndBreakRelease :
    (put heldLane).hears ∧ (put ownLane).hears ∧ base.hears ∧ ((put heldLane).lane 0).sense[(1 : Originator)].causes = 0 ∧
      1 < (2 : Byte).toNat ∧ (1 : Byte).toNat ≤ 1 ∧ ((put heldLane).lane 0).claim = some ⟨1, 2, 5⟩ ∧
      ((put ownLane).lane 0).claim = some ⟨1, 1, 5⟩ ∧ (base.lane 0).claim = none :=
  ⟨hears_put _ (by decide), hears_put _ (by decide), hears_base, by decide, by decide, by decide, by decide, by decide,
    by decide⟩

theorem witness_ReportsChangeNothing : (put attending).hears ∧ (put attending).lane 0 = attending (base.lane 0) :=
  ⟨hears_put _ (by decide), State.lane_onLane_self _ _ _⟩

/-- Select bit 12 alone with a long of 1; bit 13; and bit 12 with a long of 2. -/
theorem witness_SetLaneOptionsClampsInOrder :
    base.hears ∧ base.passes 0 0 ∧ ([0, 0x10] ++ List.replicate 18 0 ++ [1] : List Byte).length = 21 ∧
      u16At ([0, 0x10] ++ List.replicate 18 0 ++ [1]) 0 < 8192 ∧ byteAt ([0, 0x10] ++ List.replicate 18 0 ++ [1]) 20 ≤ 1 ∧
      ¬ u16At ([0, 0x20] ++ List.replicate 19 0) 0 < 8192 ∧ ¬ byteAt ([0, 0x10] ++ List.replicate 18 0 ++ [2]) 20 ≤ 1 :=
  ⟨hears_base, base_passes 0 0, by decide, by decide, by decide, by decide, by decide⟩

theorem witness_LaneResetCleansOneLane :
    (put chainLane).hears ∧ (put chainLane).passes 2 0 ∧ ((put chainLane).lane 0).link.state = .up ∧ base.hears ∧
      base.passes 0 23 ∧ (base.lane 23).link.state ≠ .up ∧ ({ base with squeezed := true } : State).squeezed = true :=
  ⟨hears_put _ (by decide), passes_of_served (c := ⟨2, 2, 0⟩) (by decide) (by decide) rfl, by decide, hears_base,
    base_passes 0 23, by decide, by decide⟩

/-- Lane 0 UP with sixteen sends queued. -/
def fullQueue (L : LaneState) : LaneState :=
  { upLane L with send := ⟨List.replicate 16 (sendOf 1 0 false), false⟩ }

theorem witness_SendPacketIsQueued :
    (put upLane).hears ∧ (put upLane).passes 0 0 ∧ (put fullQueue).hears ∧ (put fullQueue).passes 0 0 ∧
      (List.replicate 1024 (0 : Byte)).length ≤ 1024 ∧ 1 < (2 : Byte).toNat ∧ (1 : Byte).toNat ≤ 1 ∧
      (base.lane 0).link.state ≠ .up ∧ ((put upLane).lane 0).link.state = .up ∧
      16 ≤ ((put fullQueue).lane 0).send.queue.length ∧ ((put upLane).lane 0).send.queue.length < 16 ∧
      768 < ({ put upLane with downHeld := 760 } : State).downHeld + (1024 + 16 + 127) / 128 ∧
      ({ put upLane with downHeld := 759 } : State).downHeld + (1024 + 16 + 127) / 128 ≤ 768 :=
  ⟨hears_put _ (by decide), passes_of_free (by decide) (by decide), hears_put _ (by decide),
    passes_of_free (by decide) (by decide), by decide +kernel, by decide, by decide, by decide, by decide, by decide,
    by decide, by decide, by decide⟩

theorem witness_ResumeAndFlush :
    (put chainLane).hears ∧ (put chainLane).passes 2 0 ∧ (0 : Byte) = 0 ∧ 3 < (4 : Byte).toNat :=
  ⟨hears_put _ (by decide), passes_of_served (c := ⟨2, 2, 0⟩) (by decide) (by decide) rfl, rfl, by decide⟩

theorem witness_CancelledSendsAreAnswered :
    ((put chainLane).lane 0).send.queue = [sendOf 0x11 600 true, sendOf 0x12 100 false] ++ [sendOf 0x13 900 false] ∧
      (sendOf 0x10 200 true).chain = true ∧ (sendOf 0x10 200 false).chain = false ∧
      (∃ linked last, [sendOf 0x11 600 true, sendOf 0x12 100 false] = linked ++ [last] ∧ (∀ r ∈ linked, r.chain = true) ∧
        last.chain = false) ∧
      (∀ r ∈ [sendOf 0x11 600 true], r.chain = true) :=
  ⟨by decide +kernel, rfl, rfl, ⟨[sendOf 0x11 600 true], sendOf 0x12 100 false, rfl, by decide +kernel, rfl⟩, by decide +kernel⟩

/-- A lane whose link is DISABLED, with its nest seated or not. -/
def disabledLane (seated : Bool) (L : LaneState) : LaneState :=
  { linkIn .disabled L with nest := { L.nest with seated := seated } }

theorem witness_LinkRequestsByState :
    ((put (disabledLane true)).hears ∧ (put (disabledLane true)).passes 0 0 ∧
        ((put (disabledLane true)).lane 0).link.state = .disabled ∧ ((put (disabledLane true)).lane 0).nest.seated = true) ∧
      ((put (disabledLane false)).hears ∧ ((put (disabledLane false)).lane 0).nest.seated = false) ∧
      (base.hears ∧ base.passes 0 0 ∧ (base.lane 0).link.state = .vacant) ∧
      ((put (linkIn .failed)).hears ∧ ((put (linkIn .failed)).lane 0).link.state = .failed) ∧
      ((put upLane).hears ∧ ((put upLane).lane 0).link.state = .up) ∧ 1 < (2 : Byte).toNat :=
  ⟨⟨hears_put _ (by decide), passes_of_free (by decide) (by decide), by decide, by decide⟩,
    ⟨hears_put _ (by decide), by decide⟩, ⟨hears_base, base_passes 0 0, by decide⟩, ⟨hears_put _ (by decide), by decide⟩,
    ⟨hears_put _ (by decide), by decide⟩, by decide⟩

/-- A lane whose supply is in a state, with its nest seated or not. -/
def supplyIn (k : SupplyState) (seated : Bool) (L : LaneState) : LaneState :=
  { L with supply := { L.supply with state := k }, nest := { L.nest with seated := seated } }

theorem witness_SupplyByActionAndState :
    ((put (supplyIn .off true)).hears ∧ (put (supplyIn .off true)).passes 0 0 ∧
        ((put (supplyIn .off true)).lane 0).nest.seated = true ∧ ((put (supplyIn .off true)).lane 0).supply.state = .off) ∧
      ((put (supplyIn .off false)).hears ∧ ((put (supplyIn .off false)).lane 0).nest.seated = false ∧
        ((put (supplyIn .off false)).lane 0).supply.state ≠ .on) ∧
      ((put (supplyIn .tripped true)).hears ∧ ((put (supplyIn .tripped true)).lane 0).supply.state = .tripped) ∧
      ((put (supplyIn .on true)).hears ∧ ((put (supplyIn .on true)).lane 0).supply.state = .on ∧
        ((put (supplyIn .on true)).lane 0).supply.source = .bus) ∧
      2 < (3 : Byte).toNat ∧ 1 < (2 : Byte).toNat :=
  ⟨⟨hears_put _ (by decide), passes_of_free (by decide) (by decide), by decide, by decide⟩,
    ⟨hears_put _ (by decide), by decide, by decide⟩, ⟨hears_put _ (by decide), by decide⟩,
    ⟨hears_put _ (by decide), by decide, by decide⟩, by decide, by decide⟩

/-- A lane with an active window, and one staged or none. -/
def windowsIn (w : ActiveWindow) (staged : Option WindowParams) (L : LaneState) : LaneState :=
  { L with supply := { L.supply with active := w, staged := staged } }

theorem witness_TripAndWindowRequests :
    (base.hears ∧ base.passes 0 0 ∧ (base.lane 0).supply.active.resting) ∧
      ((put (windowsIn (.armed (windowOf .now)) none)).hears ∧
        ¬ ((put (windowsIn (.armed (windowOf .now)) none)).lane 0).supply.active.resting ∧
        ((put (windowsIn (.armed (windowOf .now)) none)).lane 0).supply.staged = none) ∧
      ((put (windowsIn (.armed (windowOf .now)) (some (windowOf .linkUp)))).hears ∧
        ((put (windowsIn (.armed (windowOf .now)) (some (windowOf .linkUp)))).lane 0).supply.staged ≠ none) ∧
      (3 < (4 : Byte).toNat ∧ 1 < (2 : Byte).toNat ∧ Trigger.strokeStep.code = (3 : Byte).toNat ∧ (1 : Byte).toNat ≤ 1) :=
  ⟨⟨hears_base, base_passes 0 0, Or.inl (by decide)⟩,
    ⟨hears_put _ (by decide), by rintro (h | ⟨p, h⟩ | ⟨p, h⟩) <;> revert h <;> simp [put, windowsIn], by decide⟩,
    ⟨hears_put _ (by decide), by decide⟩, by decide⟩

theorem witness_StrokeListRequests :
    (base.hears ∧ base.passes 0 0) ∧
      ((put (strokesIn .idle (List.replicate 15 ⟨true, false, 5, false⟩))).hears ∧
        16 < ((put (strokesIn .idle (List.replicate 15 ⟨true, false, 5, false⟩))).lane 0).strokes.queue.length + 2 ∧
        ((put (strokesIn .idle (List.replicate 15 ⟨true, false, 5, false⟩))).lane 0).strokes.queue.length + 1 ≤ 16) ∧
      ([((3 : Byte), (1 : Byte), (0 : Byte), (1 : Byte))] ≠ [] ∧ (3 : Byte).toNat ≤ 3 ∧ (1 : Byte).toNat ≤ 1) ∧
      (3 < (4 : Byte).toNat ∧ 1 < (2 : Byte).toNat) :=
  ⟨⟨hears_base, base_passes 0 0⟩, ⟨hears_put _ (by decide), by decide, by decide⟩, by decide, by decide⟩

theorem witness_StopStrokesWaitsForRetract :
    (base.hears ∧ base.passes 0 0 ∧ (base.lane 0).strokes.state = .idle) ∧
      ((put (strokesIn (.gap 9) [])).hears ∧ ((put (strokesIn (.gap 9) [])).lane 0).strokes.state.code = 1) ∧
      ((put (strokesIn (.stopping 0) [])).hears ∧ ((put (strokesIn (.stopping 0) [])).lane 0).strokes.state = .stopping 0) :=
  ⟨⟨hears_base, base_passes 0 0, by decide⟩, ⟨hears_put _ (by decide), by decide⟩, ⟨hears_put _ (by decide), by decide⟩⟩

theorem witness_LampAndKeep :
    (base.hears ∧ base.passes 0 0 ∧ (base.lane 0).nest.seated = false) ∧
      ((put startable).hears ∧ ((put startable).lane 0).nest.seated = true) ∧
      (9 < (10 : Byte).toNat ∧ 3 < (4 : Byte).toNat ∧ LampSource.tripped.code = (9 : Byte).toNat ∧ (3 : Byte).toNat ≤ 3 ∧
        1 < (2 : Byte).toNat) :=
  ⟨⟨hears_base, base_passes 0 0, by decide⟩, ⟨hears_put _ (by decide), by decide⟩, by decide⟩

/-! ### Witnesses: lane events -/

theorem witness_InputsQualifyAndTimersExpire :
    ((put fun L => { L with upstream := { L.upstream with packTimer := some 0 } }).lane 0).upstream.packTimer = some 0 ∧
      ((put fun L => { L with activity := some 50000 }).lane 0).activity = some 50000 := by decide

/-- A lane with the connect qualification at its end. -/
def connecting (L : LaneState) : LaneState :=
  { L with link := { L.link with state := .waiting, line := true, connectQual := some 0 } }

theorem witness_ConnectAndDisconnect :
    (((put connecting).lane 0).link.connectQual = some 0 ∧ ((put connecting).lane 0).link.state = .waiting) ∧
      ((put fun L => linkIn .vacant (connecting L)).lane 0).link.state ≠ .waiting ∧
      (((put upLane).lane 0).link.connectPresent = true ∧ ((put upLane).lane 0).link.state = .up) ∧
      ((put fun L => linkIn .failed (upLane L)).lane 0).link.state = .failed ∧
      ((put fun L => linkIn (.attaching ⟨9, .resetting 9⟩) (upLane L)).lane 0).link.state.code = 3 ∧
      ((put fun L => linkIn .waiting (upLane L)).lane 0).link.state.code ≤ 2 := by decide

/-- A lane in a phase of its attach with 7 µs left. -/
def attachingIn (p : AttachPhase) : State := put (linkIn (.attaching ⟨7, p⟩))

theorem witness_AttachEnumerates :
    ((attachingIn (.resetting 0)).lane 0).link.state = .attaching ⟨7, .resetting 0⟩ ∧
      ((attachingIn (.enumerating .device none)).lane 0).link.state = .attaching ⟨7, .enumerating .device none⟩ ∧
      ((attachingIn (.enumerating (.address 0) none)).lane 0).link.state = .attaching ⟨7, .enumerating (.address 0) none⟩ ∧
      ((attachingIn (.enumerating (.address 1) none)).lane 0).link.state = .attaching ⟨7, .enumerating (.address 1) none⟩ ∧
      ((attachingIn (.enumerating (.configuration 0 1) none)).lane 0).link.state =
        .attaching ⟨7, .enumerating (.configuration 0 1) none⟩ ∧
      ((attachingIn (.enumerating (.select ⟨1, 1, 2⟩) none)).lane 0).link.state =
        .attaching ⟨7, .enumerating (.select ⟨1, 1, 2⟩) none⟩ ∧
      ((attachingIn (.enumerating .device (some 1000))).lane 0).link.state =
        .attaching ⟨7, .enumerating .device (some 1000)⟩ ∧
      ((attachingIn (.identifying .request (some 1000))).lane 0).link.state =
        .attaching ⟨7, .identifying .request (some 1000)⟩ ∧
      ([(⟨0xFF, 0x4D, 0x02, [⟨1, 64⟩], [⟨2, 64⟩]⟩ : Interface)] = [] ++ ⟨0xFF, 0x4D, 0x02, [⟨1, 64⟩], [⟨2, 64⟩]⟩ :: [] ∧
        (∀ j ∈ ([] : List Interface), j.cls ≠ 0xFF) ∧ (∀ j ∈ [(⟨0x08, 6, 0x50, [], []⟩ : Interface)], j.cls ≠ 0xFF)) := by
  decide

/-- The shortest valid answer, n = 1 and m = 0, in eight bytes; the empty packet; and an answer with n = 0. -/
theorem witness_IdentityExchange :
    ((attachingIn (.identifying .request none)).lane 0).link.state = .attaching ⟨7, .identifying .request none⟩ ∧
      ((attachingIn (.identifying (.reading Poll.fresh) none)).lane 0).link.state =
        .attaching ⟨7, .identifying (.reading Poll.fresh) none⟩ ∧
      Poll.fresh.bytes.length = min Poll.fresh.count 1024 ∧
      ((attachingIn (.identifying (.reading ⟨[1], 1, some 0⟩) none)).lane 0).link.state =
        .attaching ⟨7, .identifying (.reading ⟨[1], 1, some 0⟩) none⟩ ∧
      ([1] : List Byte).length = min 1 1024 ∧
      (([] : List Byte).length < 64 ∧ ([] : List Byte).head? ≠ some 0xF1) ∧
      (([0xF1, 2, 0, 3, 0, 1, 0x41, 0] : List Byte) =
          [0xF1] ++ le16 (2 : BitVec 16).toNat ++ le16 (3 : BitVec 16).toNat ++ le8 1 ++ [0x41] ++ le8 0 ++ [] ∧
        ([0xF1, 2, 0, 3, 0, 1, 0x41, 0] : List Byte).length < 64) ∧
      ∀ id : Identity, ([0xF1, 2, 0, 3, 0, 0, 0] : List Byte) =
          [0xF1] ++ le16 id.model.toNat ++ le16 id.agent.toNat ++ le8 id.serial.length ++ id.serial ++
            le8 id.label.length ++ id.label → ¬ (1 ≤ id.serial.length ∧ id.serial.length ≤ 32) := by
  refine ⟨by decide, by decide, by decide, by decide, by decide, by decide, by decide, fun id h hn => ?_⟩
  have := congrArg (fun x => (x.getD 5 9 : Byte)) h
  simp [le16, le8] at this
  have h2 := congrArg BitVec.toNat this
  simp at h2
  omega

theorem witness_identity_request :
    let n := ((put fun L => linkIn (.attaching ⟨9, .identifying .request none⟩) (upLane L)).lane 0).link
    n.state = .attaching ⟨9, .identifying .request none⟩ ∧ n.function = some ⟨1, 1, 2⟩ ∧ n.out = .idle := by decide

theorem witness_AttachEnds :
    (base.lane 0).claim = none ∧ ((put heldLane).lane 0).claim = some ⟨1, 2, 5⟩ ∧
      ((attachingIn (.resetting 0)).lane 0).link.state = .attaching ⟨7, .resetting 0⟩ := by decide

theorem witness_LeavingUpAnswersEverySend :
    (base.lane 0).claim = none ∧ ((put chainLane).lane 0).claim = some ⟨2, 2, 0⟩ ∧ ((put chainLane).lane 0).sends.length = 4 := by
  decide

/-- A send of attempt `n` on its way, or waiting for the next. -/
def sendingLane (n : Nat) (L : LaneState) : LaneState :=
  { upLane L with link := { (upLane L).link with out := .sending ⟨sendOf 1 0 false, n, 0, 500⟩ 0 } }

theorem witness_SendAttempts :
    (((put fullQueue).lane 0).link.state = .up ∧ ((put fullQueue).lane 0).link.out = .idle ∧
        ((put fullQueue).lane 0).send.halted = false ∧ .out ∉ ((put fullQueue).lane 0).link.clearings ∧
        ((put fullQueue).lane 0).send.queue = sendOf 1 0 false :: List.replicate 15 (sendOf 1 0 false)) ∧
      (((put fun L => { linkIn .waiting (upLane L) with send := ⟨[sendOf 1 0 false], false⟩ }).lane 0).link.state ≠ .up ∧
        ((put fun L => { sendingLane 1 L with send := ⟨[sendOf 1 0 false], false⟩ }).lane 0).link.out ≠ .idle ∧
        ((put fun L => { upLane L with send := ⟨[sendOf 1 0 false], true⟩ }).lane 0).send.halted = true) ∧
      (((put (sendingLane 3)).lane 0).link.out = .sending ⟨sendOf 1 0 false, 3, 0, 500⟩ 0 ∧
        3 < ((put (sendingLane 3)).lane 0).options.attemptLimit ∧ ((put (sendingLane 4)).lane 0).options.attemptLimit ≤ 4) ∧
      ((put fun L => { upLane L with link := { (upLane L).link with
        out := .retryWait ⟨sendOf 1 0 false, 1, 0, 500⟩ 1000 } }).lane 0).link.out =
          .retryWait ⟨sendOf 1 0 false, 1, 0, 500⟩ 1000 := by decide

theorem witness_OutTransactions :
    ((put (sendingLane 1)).lane 0).link.out = .sending ⟨sendOf 1 0 false, 1, 0, 500⟩ 0 ∧
      (sendOf 1 0 false).data.length / 512 ≤ 0 ∧ 0 < (sendOf 1 512 false).data.length / 512 ∧
      1 - 1 = 0 ∧ 2 - 1 ≠ 0 ∧ ((put (sendingLane 1)).lane 0).options.reportRecovered = false ∧
      ((put fun L => { sendingLane 2 L with options := { L.options with reportRecovered := true } }).lane 0).options.reportRecovered =
        true ∧
      ((put (sendingLane 3)).lane 0).link.errorCount + 1 < ((put (sendingLane 3)).lane 0).options.attemptLimit ∧
      3 < ((put (sendingLane 3)).lane 0).options.attemptLimit ∧ ((put (sendingLane 4)).lane 0).options.attemptLimit ≤ 4 := by
  decide +kernel

theorem witness_out_transaction :
    ((put (sendingLane 1)).lane 0).link.out = .sending ⟨sendOf 1 0 false, 1, 0, 500⟩ 0 ∧
      ((put (sendingLane 1)).lane 0).link.function = some ⟨1, 1, 2⟩ ∧ 0 ≤ (sendOf 1 0 false).data.length / 512 := by decide

/-- A lane with the clearings that are under way, an error count, and the IN engine's state. -/
def clearingLane (cs : List Endpoint) (retry : Timer) (errors : Nat) (inn : InEngine) (L : LaneState) : LaneState :=
  { upLane L with link := { (upLane L).link with clearings := cs, clearRetry := retry, errorCount := errors, inn := inn } }

theorem witness_ClearingsPollsAndWaits :
    (((put (clearingLane [.out, .inn] none 3 (.idle none))).lane 0).link.clearings = .out :: [.inn] ∧
        ((put (clearingLane [.out, .inn] none 3 (.idle none))).lane 0).link.clearRetry = none ∧
        ((put (clearingLane [.out, .inn] none 3 (.idle none))).lane 0).options.attemptLimit ≤ 3 + 1 ∧
        2 + 1 < ((put (clearingLane [.inn] none 2 (.idle none))).lane 0).options.attemptLimit) ∧
      ((put (clearingLane [.out] (some 1000) 0 (.idle none))).lane 0).link.clearRetry = some 1000 ∧
      (((put upLane).lane 0).link.inn = .idle none ∧ (put upLane).pollConditions 0) ∧
      ((base.lane 0).link.inn = .idle none ∧ ¬ base.pollConditions 0) ∧
      (((put (clearingLane [.inn] none 0 (.pollWait 125 none))).lane 0).link.inn = .pollWait 125 none ∧
        .inn ∈ ((put (clearingLane [.inn] none 0 (.pollWait 125 none))).lane 0).link.clearings ∧
        (put (clearingLane [] none 0 (.pollWait 125 none))).pollConditions 0 ∧
        ¬ (put fun L => { clearingLane [] none 0 (.pollWait 125 none) L with flowHeld := true }).pollConditions 0) ∧
      ((put (clearingLane [] none 0 (.pollWait 0 (some Poll.fresh)))).lane 0).link.inn = .pollWait 0 (some Poll.fresh) ∧
      ((put (clearingLane [] none 0 (.polling ⟨[1], 512, some 0⟩))).lane 0).link.inn = .polling ⟨[1], 512, some 0⟩ ∧
      (∃ w, ((put (clearingLane [] none 3 (.pollWait 9 (some ⟨[1], 512, some 0⟩)))).lane 0).link.inn =
        .pollWait w (some ⟨[1], 512, some 0⟩)) ∧
      ((put (clearingLane [] none 3 (.idle (some ⟨[1], 512, some 0⟩)))).lane 0).link.inn =
        .idle (some ⟨[1], 512, some 0⟩) ∧ (put (clearingLane [] none 3 (.idle (some ⟨[1], 512, some 0⟩)))).pollConditions 0 :=
  ⟨by decide, by decide, ⟨by decide, by unfold State.pollConditions; decide⟩,
    ⟨by decide, by unfold State.pollConditions; decide⟩,
    ⟨by decide, by decide, by unfold State.pollConditions; decide, by unfold State.pollConditions; decide⟩, by decide,
    by decide, ⟨9, by decide⟩, by decide, by unfold State.pollConditions; decide⟩

theorem witness_interrupted_poll :
    ((put (clearingLane [] none 0 (.pollWait 9 (some Poll.fresh)))).lane 0).link.inn = .pollWait 9 (some Poll.fresh) ∧
      (put (clearingLane [] none 0 (.pollWait 9 (some Poll.fresh)))).pollConditions 0 ∧
      ¬ (put fun L => { clearingLane [] none 0 (.pollWait 9 (some Poll.fresh)) L with flowHeld := true }).pollConditions 0 :=
  ⟨by decide, by unfold State.pollConditions; decide, by unfold State.pollConditions; decide⟩

theorem witness_in_transaction :
    ((put (clearingLane [] none 3 (.polling Poll.fresh))).lane 0).link.inn = .polling Poll.fresh ∧
      ((put (clearingLane [] none 3 (.polling Poll.fresh))).lane 0).link.function = some ⟨1, 1, 2⟩ := by decide

theorem witness_in_transaction_while_idle :
    let going : Poll → InEngine := fun q => .idle (some q)
    (going = .polling ∨ going = fun q => .idle (some q)) ∧
      ((put (clearingLane [] none 3 (.idle (some ⟨[1], 512, some 9⟩)))).lane 0).link.inn = going ⟨[1], 512, some 9⟩ :=
  ⟨.inr rfl, by decide⟩

theorem witness_InTransactions :
    ((put (clearingLane [] none 3 (.polling Poll.fresh))).lane 0).link.inn = .polling Poll.fresh ∧ Poll.fresh.count = 0 ∧
      ((put (clearingLane [] none 2 (.polling ⟨[1], 1536, none⟩))).lane 0).link.inn = .polling ⟨[1], 1536, none⟩ ∧
      ((put (clearingLane [] none 3 (.polling Poll.fresh))).lane 0).options.attemptLimit ≤ 3 + 1 ∧
      2 + 1 < ((put (clearingLane [] none 2 (.polling ⟨[1], 1536, none⟩))).lane 0).options.attemptLimit ∧
      512 < (List.replicate 513 (0 : Byte)).length ∧
      ((List.replicate 512 (0 : Byte)).length = 512 ∧ 0 + 512 < 2048 ∧ 2048 ≤ 1536 + 512) ∧ ([] : List Byte).length < 512 := by
  decide +kernel

theorem witness_ArrivalsAreJudgedInFourSteps :
    512 < 513 ∧ ((put (arrivalLane 0 0 [] 0)).lane 0).options.keepDamaged = false ∧
      ((put fun L => { arrivalLane 0 0 [] 0 L with options := { L.options with keepDamaged := true } }).lane 0).options.keepDamaged =
        true ∧
      ({ base with classes := base.classes.set 0x20 .discard } : State).classes[((0x20 : Byte).toNat)] = .discard ∧
      ({ base with classes := base.classes.set 0x21 .count } : State).classes[((0x21 : Byte).toNat)] = .count ∧
      base.classes[((0 : Byte).toNat)] = .deliver ∧ (base.lane 0).options.promiscuous = false ∧
      17 + (300 + 16 + 127) / 128 ≤ ((put (arrivalLane 0 17 [] 0)).lane 0).options.cap ∧
      ¬ 18 + (300 + 16 + 127) / 128 ≤ ((put (arrivalLane 0 18 [] 0)).lane 0).options.cap := by decide

theorem witness_SampleServesWindowThenTrip :
    ((put tripLane).lane 0).supply.nextSample = some 0 ∧ (base.lane 0).supply.active.resting ∧
      ((put (windowsIn (.armed (windowOf .now)) none)).lane 0).supply.active = .armed (windowOf .now) ∧
      ((put (windowsIn (.delaying (windowOf .now) 2) none)).lane 0).supply.active = .delaying (windowOf .now) 2 ∧
      ((put (windowsIn (.delaying (windowOf .now) 1) none)).lane 0).supply.active = .delaying (windowOf .now) 1 ∧
      ((put (windowsIn (.measuring (windowOf .now) Figures.zero) none)).lane 0).supply.active =
        .measuring (windowOf .now) Figures.zero ∧
      (0 + 1 < (windowOf .now).length ∧ (windowOf .now).length ≤ 1 + 1) ∧
      (((put tripLane).lane 0).supply.state = .on ∧
        ((put tripLane).lane 0).supply.blanking ≤ ((put tripLane).lane 0).supply.blankCount ∧
        ((put tripLane).lane 0).supply.tripLevel ≠ 0 ∧ ((put tripLane).lane 0).supply.tripLevel < 1801 ∧
        ((put tripLane).lane 0).supply.tripCount ≤ ((put tripLane).lane 0).supply.tripRun + 1) ∧
      (1 + 1 < ((put tripLane).lane 0).supply.tripCount ∧ 1800 ≤ ((put tripLane).lane 0).supply.tripLevel) ∧
      ((base.lane 0).supply.state ≠ .on ∧
        ((put (supplyIn .on true)).lane 0).supply.blankCount < ((put (supplyIn .on true)).lane 0).supply.blanking) :=
  ⟨by decide, Or.inl (by decide), by decide, by decide, by decide, by decide, by decide, by decide, by decide, by decide⟩

/-- A lane whose supply had passed its blanking when SET_TRIP raised Bk to 100. -/
def pastLane (L : LaneState) : LaneState :=
  { tripLane L with supply := { (tripLane L).supply with blanking := 100, blankPassed := true } }

theorem witness_blanking :
    (((put pastLane).lane 0).supply.state = .on ∧
        ((put pastLane).lane 0).supply.blankCount < ((put pastLane).lane 0).supply.blanking ∧
        ((put pastLane).lane 0).supply.blankPassed = true) ∧
      ¬ (((put (supplyIn .on true)).lane 0).supply.blankPassed = true ∨
        ((put (supplyIn .on true)).lane 0).supply.blanking ≤ ((put (supplyIn .on true)).lane 0).supply.blankCount) := by
  decide

theorem witness_StrokeStepsRun :
    ((put (strokesIn (.pending 0 0) [⟨true, false, 5, false⟩])).lane 0).strokes.state = .pending 0 0 ∧
      ((put (strokesIn (.pending 0 0) [⟨true, false, 5, false⟩])).lane 0).strokes.queue ≠ [] ∧
      ((put (strokesIn (.gap 0) [⟨true, false, 5, false⟩])).lane 0).strokes.state = .gap 0 ∧
      (((put (strokesIn (.step ⟨true, true, 5, false⟩ 0) [])).lane 0).strokes.state = .step ⟨true, true, 5, false⟩ 0 ∧
        ((put (strokesIn (.step ⟨true, true, 5, false⟩ 0) [])).lane 0).strokes.queue = []) ∧
      ((put (strokesIn (.step ⟨true, true, 5, false⟩ 0) [⟨true, false, 5, false⟩])).lane 0).strokes.queue =
        ⟨true, false, 5, false⟩ :: [] ∧
      ((put (strokesIn (.step ⟨true, false, 5, false⟩ 0) [⟨false, true, 5, true⟩])).lane 0).strokes.queue =
        ⟨false, true, 5, true⟩ :: [] ∧
      (((put fun L => { L with strokes := { L.strokes with queue := [⟨true, false, 5, false⟩], lowArmed := true, lowMark := 0 } }).lane
          0).strokes.lowArmed = true ∧
        ([] : List Step).length = ((put fun L => { L with strokes :=
          { L.strokes with queue := [⟨true, false, 5, false⟩], lowArmed := true, lowMark := 0 } }).lane 0).strokes.lowMark) := by
  decide

/-- A lane whose nest qualification is at its end. -/
def settling (raw : Bool) (L : LaneState) : LaneState := { L with nest := ⟨raw, !raw, some 0⟩ }

theorem witness_NestsSettle :
    (((put (settling true)).lane 0).nest.qual = some 0 ∧ ((put (settling true)).lane 0).nest.raw = true ∧
        ((put (settling true)).lane 0).link.state = .vacant ∧
        ((put fun L => settling true (linkIn .disabled L)).lane 0).link.state ≠ .vacant) ∧
      (((put fun L => settling false (upLane L)).lane 0).nest.raw = false ∧
        ((put fun L => settling false (upLane L)).lane 0).link.state = .up ∧
        ((put fun L => settling false (linkIn .disabled L)).lane 0).link.state = .disabled ∧
        ((put fun L => settling false (linkIn .failed L)).lane 0).link.state = .failed) ∧
      (((put fun L => settling false (tripLane L)).lane 0).supply.state = .on ∧
        ((put fun L => settling false (tripLane L)).lane 0).supply.active =
          .measuring ⟨.supplyOn, 0, 0, 400, 0, true⟩ ⟨8, 15850, some 1200, some 3100, none⟩) ∧
      (((put fun L => settling false (strokesIn (.gap 9) [] L)).lane 0).strokes.state.code = 1 ∧
        ((put fun L => settling false (strokesIn (.stopping 9) [] L)).lane 0).strokes.state.code = 2) ∧
      ((put fun L => { settling false L with keep := true }).lane 0).keep = true := by decide

/-! ### Witnesses: invariants -/

theorem witness_RecordingRule :
    (⟨none, 0, 4⟩ : Sense).held = none ∧ (⟨some ⟨.linkLost, 0, none⟩, 255, 0⟩ : Sense).held = some ⟨.linkLost, 0, none⟩ ∧
      Cond.key .linkLost ≤ Cond.key (.attachFailed 1) ∧ Cond.key .flushed < Cond.key .linkLost := by decide

theorem base_steps : ∃ t, step base = .next t := ⟨_, rfl⟩

theorem witness_SenseRecordsStaySound : base.sensesSound ∧ ∃ t, step base = .next t :=
  ⟨by unfold State.sensesSound Sense.sound; decide +kernel, base_steps⟩

theorem witness_SendQueuesStaySound : (∀ l : LaneId, (base.lane l).sendsSound) ∧ ∃ t, step base = .next t :=
  ⟨by unfold LaneState.sendsSound; decide +kernel, base_steps⟩

theorem witness_FixturesStaySound : (∀ l : LaneId, (base.lane l).fixtureSound) ∧ ∃ t, step base = .next t :=
  ⟨by unfold LaneState.fixtureSound; decide +kernel, base_steps⟩

theorem witness_MarksStaySound : (∀ l : LaneId, (base.lane l).marksSound) ∧ ∃ t, step base = .next t :=
  ⟨by unfold LaneState.marksSound; decide +kernel, base_steps⟩

theorem witness_CellAccountsStaySound : base.cellsSound ∧ ∃ t, step base = .next t :=
  ⟨by unfold State.cellsSound; decide +kernel, base_steps⟩

theorem witness_ReplyStoreStaysSound : base.repliesSound ∧ ∃ t, step base = .next t :=
  ⟨by unfold State.repliesSound; decide +kernel, base_steps⟩

end Sys2Proof.Tests
end

section
/-! What every operation does to reception and to the reply entries in use (R6, R7): one law per operation, in the
order of the model's files. Each is about `State.intake`, which is all that `State.repliesSound` speaks of. -/

namespace Sys2Proof.Machine

/-! ### The measure -/

/-- What R6 and R7 speak of: reception, and the number of reply entries that are READY or RESERVED. -/
def State.intake (s : State) : Rx × Nat := (s.rx, s.ready.length + s.reservedEntries)

/-- The invariant of the reply store as a property of the intake alone. -/
def intakeSound (i : Rx × Nat) : Prop :=
  i.2 ≤ 448 ∧ (i.1.begun = true → i.2 < 448) ∧ (i.1.begun = false → i.1.phase = .hunt)

theorem State.repliesSound_iff (s : State) : s.repliesSound ↔ intakeSound s.intake := Iff.rfl

theorem State.mayBegin_iff (s : State) : s.mayBegin = true ↔ s.intake.2 < 448 ∧ s.resetPending = false := by
  simp only [State.mayBegin, State.freeEntries, State.intake, Config.replyEntries, Bool.and_eq_true, decide_eq_true_eq,
    Bool.not_eq_true', Nat.sub_pos_iff_lt]

theorem State.reservedEntries_eq_sum (s : State) : s.reservedEntries = ∑ l, (s.lane l).reservedEntries := by
  rw [State.reservedEntries, State.sum_lanes, Fin.sum_univ_def]

/-! ### Lanes -/

/-- A change of one lane that gains `n` entries there. -/
theorem State.intake_onLane_gain (s : State) (l : LaneId) (f : LaneState → LaneState) (n : Nat)
    (h : (f (s.lane l)).reservedEntries = (s.lane l).reservedEntries + n) :
    (s.onLane l f).intake = (s.intake.1, s.intake.2 + n) := by
  have hk : ∀ k, ((s.onLane l f).lane k).reservedEntries = (s.lane k).reservedEntries + if l = k then n else 0 := by
    intro k
    by_cases hl : l = k
    · subst hl; simp [h]
    · simp [hl]
  simp [State.intake, State.reservedEntries_eq_sum, hk, Finset.sum_add_distrib, Nat.add_assoc]

/-- A change of one lane that keeps its entries. -/
theorem State.intake_onLane (s : State) (l : LaneId) (f : LaneState → LaneState)
    (h : (f (s.lane l)).reservedEntries = (s.lane l).reservedEntries) : (s.onLane l f).intake = s.intake :=
  s.intake_onLane_gain l f 0 h

/-- A change of one lane that gives up `n` entries there, and `n` entries that join them again. -/
theorem State.intake_onLane_lose (s : State) (l : LaneId) (f : LaneState → LaneState) (n : Nat)
    (h : (f (s.lane l)).reservedEntries + n = (s.lane l).reservedEntries) :
    ((s.onLane l f).intake.1, (s.onLane l f).intake.2 + n) = s.intake := by
  have hk : ∀ k, (s.lane k).reservedEntries = ((s.onLane l f).lane k).reservedEntries + if l = k then n else 0 := by
    intro k
    by_cases hl : l = k
    · subst hl; simp [h]
    · simp [hl]
  simp [State.intake, State.reservedEntries_eq_sum, hk, Finset.sum_add_distrib, Nat.add_assoc]

/-- A change of every lane that keeps the entries of each. -/
theorem State.reservedEntries_congr {s t : State}
    (h : ∀ l, (t.lane l).reservedEntries = (s.lane l).reservedEntries) : t.reservedEntries = s.reservedEntries := by
  simp only [State.reservedEntries_eq_sum, h]

/-- Time takes no send out of flight. -/
theorem OutEngine.flight_pass (d : Nat) (e : OutEngine) : (e.pass d).flight = e.flight := by cases e <;> rfl

theorem LaneState.reservedEntries_pass (d : Nat) (L : LaneState) : (L.pass d).reservedEntries = L.reservedEntries := by
  simp only [LaneState.reservedEntries, LaneState.sends, LaneState.pass, Link.pass, OutEngine.flight_pass]

/-- The entries of a lane whose OUT engine is idle, and of one with a send in flight. -/
theorem LaneState.reservedEntries_idle (L : LaneState) (h : L.link.out.flight = none) :
    L.reservedEntries = L.send.queue.length + L.strokes.waiting.length := by
  simp [LaneState.reservedEntries, LaneState.sends, h]
theorem LaneState.reservedEntries_flight (L : LaneState) (h : L.link.out.flight.isSome = true) :
    L.reservedEntries = L.send.queue.length + 1 + L.strokes.waiting.length := by
  obtain ⟨f, hf⟩ := Option.isSome_iff_exists.1 h
  simp [LaneState.reservedEntries, LaneState.sends, hf]

/-- A change of the link that leaves the send in flight. -/
theorem LaneState.reservedEntries_onLink (L : LaneState) (f : Link → Link) (h : (f L.link).out.flight = L.link.out.flight) :
    (L.onLink f).reservedEntries = L.reservedEntries := by
  simp only [LaneState.reservedEntries, LaneState.sends, LaneState.onLink, h]

@[simp] theorem Strokes.stop_waiting (k : Strokes) : k.stop.waiting = k.waiting := by
  cases h : k.state <;> simp [Strokes.stop, h]

/-! ### Ops.lean: time, events, sense records, replies, the end of a send -/

@[simp] theorem State.intake_advance (s : State) (d : Nat) : (s.advance d).intake = s.intake := by
  simp only [State.intake, State.advance_rx, State.advance_ready]
  rw [State.reservedEntries_congr (s := s)]
  intro l
  rw [State.lane_advance, LaneState.reservedEntries_pass]

@[simp] theorem State.intake_onOriginator (s : State) (o : Originator) (f : OriginatorState → OriginatorState) :
    (s.onOriginator o f).intake = s.intake := rfl
@[simp] theorem State.intake_offerLane (s : State) (k : EventKind) (l : LaneId) : (s.offerLane k l).intake = s.intake := rfl
@[simp] theorem State.intake_recordLane (s : State) (c : Cond) (o : Originator) (l : LaneId) :
    (s.recordLane c o l).intake = s.intake := s.intake_onLane l _ rfl
@[simp] theorem State.intake_recordDevice (s : State) (c : Cond) (o : Originator) :
    (s.recordDevice c o).intake = s.intake := rfl
@[simp] theorem State.intake_recordAsync (s : State) (c : Cond) (l : LaneId) : (s.recordAsync c l).intake = s.intake := by
  cases h : (s.lane l).claim with
  | none => rw [State.recordAsync_free _ _ _ h]
  | some k => rw [State.recordAsync_held _ _ _ _ h, State.intake_recordLane]
@[simp] theorem State.intake_setAttention (s : State) (cause : BitVec 8) (l : LaneId) :
    (s.setAttention cause l).intake = s.intake := s.intake_onLane l _ rfl
@[simp] theorem State.intake_clearCondition (s : State) (o : Originator) (l : LaneId) :
    (s.clearCondition o l).intake = s.intake := s.intake_onLane l _ rfl
@[simp] theorem State.intake_clearAttention (s : State) (o : Originator) (l : LaneId) :
    (s.clearAttention o l).intake = s.intake := s.intake_onLane l _ rfl
@[simp] theorem State.intake_takeDown (s : State) (n : Nat) : (s.takeDown n).intake = s.intake := rfl
@[simp] theorem State.intake_releaseDown (s : State) (n : Nat) : (s.releaseDown n).intake = s.intake := rfl

/-- A reply that becomes READY takes one entry. -/
@[simp] theorem State.intake_pushReply (s : State) (r : Reply) :
    (s.pushReply r).intake = (s.intake.1, s.intake.2 + 1) := by
  simp only [State.intake, State.pushReply_rx, State.pushReply_ready, List.length_append, List.length_singleton,
    State.reservedEntries, State.pushReply_lanes]
  congr 1; omega

@[simp] theorem State.intake_answer (s : State) (rq : Request) (st : Status) (body : List Byte) :
    (s.answer rq st body).intake = (s.intake.1, s.intake.2 + 1) := s.intake_pushReply _
@[simp] theorem State.intake_endSendCheck (s : State) (c : Cond) (l : LaneId) (r : SendRecord) :
    (s.endSendCheck c l r).intake = (s.intake.1, s.intake.2 + 1) := by simp [State.endSendCheck]
@[simp] theorem State.intake_endSendGood (s : State) (n : Nat) (l : LaneId) (r : SendRecord) :
    (s.endSendGood n l r).intake = (s.intake.1, s.intake.2 + 1) := by simp [State.endSendGood]

/-- Each cancelled send is answered. -/
@[simp] theorem State.intake_cancelSends (c : Cond) (l : LaneId) (rs : List SendRecord) (s : State) :
    (s.cancelSends c l rs).intake = (s.intake.1, s.intake.2 + rs.length) := by
  unfold State.cancelSends
  induction rs generalizing s with
  | nil => rfl
  | cons r rs ih => rw [List.foldl_cons, ih]; simp; omega

@[simp] theorem State.intake_cancelChain (l : LaneId) (rs : List SendRecord) (k : Nat) (s : State) :
    (s.cancelChain l k rs).intake = (s.intake.1, s.intake.2 + rs.length) := by
  induction rs generalizing k s with
  | nil => rfl
  | cons r rs ih => rw [State.cancelChain, ih]; simp; omega

/-- R74: the chain and the records behind it are the whole queue. -/
theorem splitChain_length (rs : List SendRecord) : (splitChain rs).1.length + (splitChain rs).2.length = rs.length := by
  induction rs with
  | nil => rfl
  | cons r rs ih => by_cases h : r.chain = true <;> simp [splitChain, h] <;> omega

/-! ### LaneBus.lean, Flags.lean: toggles, squeeze, the upstream queue -/

@[simp] theorem State.intake_tookOut (s : State) (l : LaneId) : (s.tookOut l).intake = s.intake := s.intake_onLane l _ rfl
@[simp] theorem State.intake_tookIn (s : State) (l : LaneId) : (s.tookIn l).intake = s.intake := s.intake_onLane l _ rfl

@[simp] theorem State.intake_squeezeAfterAdmission (s : State) : s.squeezeAfterAdmission.intake = s.intake := by
  unfold State.squeezeAfterAdmission; split <;> rfl
@[simp] theorem State.intake_squeezeAfterRelease (s : State) : s.squeezeAfterRelease.intake = s.intake := by
  unfold State.squeezeAfterRelease; split <;> rfl
@[simp] theorem State.intake_squeezeAfterOptions (s : State) : s.squeezeAfterOptions.intake = s.intake := by
  simp [State.squeezeAfterOptions]
@[simp] theorem State.intake_releaseUp (s : State) (n : Nat) (l : LaneId) : (s.releaseUp n l).intake = s.intake := by
  rw [State.releaseUp, State.intake_squeezeAfterRelease]
  exact s.intake_onLane l _ rfl

theorem State.intake_onUpstream (s : State) (l : LaneId) (f : LaneState → Upstream → Upstream) :
    (s.onLane l fun L => L.onUpstream (f L)).intake = s.intake := s.intake_onLane l _ rfl
theorem State.intake_onSupply (s : State) (l : LaneId) (f : Supply → Supply) :
    (s.onLane l fun L => L.onSupply f).intake = s.intake := s.intake_onLane l _ rfl

@[simp] theorem State.intake_discardUpstream (s : State) (l : LaneId) : (s.discardUpstream l).intake = s.intake := by
  rw [State.discardUpstream, State.intake_releaseUp]
  exact s.intake_onLane l _ rfl

/-! ### Windows.lean -/

@[simp] theorem State.intake_endWindow (s : State) (done : Bool) (p : WindowParams) (f : Figures) (l : LaneId) :
    (s.endWindow done p f l).intake = s.intake := by
  rw [State.endWindow, State.intake_offerLane, State.intake_onSupply]
@[simp] theorem State.intake_abortOnTrip (s : State) (l : LaneId) : (s.abortOnTrip l).intake = s.intake := by
  unfold State.abortOnTrip; split <;> simp
@[simp] theorem State.intake_abortOnEmptied (s : State) (l : LaneId) : (s.abortOnEmptied l).intake = s.intake := by
  unfold State.abortOnEmptied; split <;> simp
@[simp] theorem State.intake_windowSample (s : State) (v : Nat) (l : LaneId) : (s.windowSample v l).intake = s.intake := by
  unfold State.windowSample
  split
  · exact s.intake_onLane l _ rfl
  · split
    · exact s.intake_endWindow ..
    · exact s.intake_onLane l _ rfl
  · rfl
@[simp] theorem State.intake_trip (s : State) (v : Nat) (l : LaneId) : (s.trip v l).intake = s.intake := by
  simp [State.trip, State.intake_onSupply]
@[simp] theorem State.intake_tripSample (s : State) (v : Nat) (l : LaneId) : (s.tripSample v l).intake = s.intake := by
  unfold State.tripSample
  dsimp only
  split <;> simp [State.intake_onSupply]

/-! ### LinkOps.lean -/

/-- A change of the link that leaves the OUT engine. -/
theorem State.intake_onLink (s : State) (l : LaneId) (f : LaneState → Link → Link)
    (h : (f (s.lane l) (s.lane l).link).out.flight = (s.lane l).link.out.flight) :
    (s.onLane l fun L => L.onLink (f L)).intake = s.intake :=
  s.intake_onLane l _ (LaneState.reservedEntries_onLink _ _ h)

@[simp] theorem State.intake_setLinkState (s : State) (k : LinkState) (l : LaneId) :
    (s.setLinkState k l).intake = s.intake := s.intake_onLink l _ rfl
@[simp] theorem State.intake_enterAttaching (s : State) (l : LaneId) : (s.enterAttaching l).intake = s.intake :=
  s.intake_onLink l _ rfl
@[simp] theorem State.intake_enterWaiting (s : State) (l : LaneId) : (s.enterWaiting l).intake = s.intake := by
  unfold State.enterWaiting; split <;> simp
@[simp] theorem State.intake_zeroErrors (s : State) (l : LaneId) : (s.zeroErrors l).intake = s.intake :=
  s.intake_onLink l _ rfl

/-- R35: every entry that the lane's sends held becomes READY. -/
@[simp] theorem State.intake_leaveUp (s : State) (l : LaneId) : (s.leaveUp l).intake = s.intake := by
  rw [State.leaveUp, State.intake_offerLane, State.intake_cancelSends]
  apply s.intake_onLane_lose
  simp [LaneState.reservedEntries, LaneState.sends, Link.quiet, OutEngine.flight]; omega

@[simp] theorem State.intake_linkFault (s : State) (e : Nat) (l : LaneId) : (s.linkFault e l).intake = s.intake := by
  simp [State.linkFault]
@[simp] theorem State.intake_attachFails (s : State) (n : Nat) (l : LaneId) : (s.attachFails n l).intake = s.intake := by
  simp [State.attachFails]
@[simp] theorem State.intake_attachSucceeds (s : State) (id : Identity) (l : LaneId) :
    (s.attachSucceeds id l).intake = s.intake := by
  rw [State.attachSucceeds, State.intake_onSupply, State.intake_onLane, State.intake_offerLane, State.intake_setAttention,
    State.intake_onLink]
  all_goals rfl
@[simp] theorem State.intake_linkNestSeated (s : State) (l : LaneId) : (s.linkNestSeated l).intake = s.intake := by
  unfold State.linkNestSeated; split <;> simp
@[simp] theorem State.intake_linkNestEmptied (s : State) (l : LaneId) : (s.linkNestEmptied l).intake = s.intake := by
  unfold State.linkNestEmptied
  rw [State.intake_onLink]
  · split <;> simp
  · rfl
@[simp] theorem State.intake_linkConnect (s : State) (l : LaneId) : (s.linkConnect l).intake = s.intake := by
  unfold State.linkConnect; split <;> simp
@[simp] theorem State.intake_linkDisconnect (s : State) (l : LaneId) : (s.linkDisconnect l).intake = s.intake := by
  unfold State.linkDisconnect; split <;> simp
@[simp] theorem State.intake_linkReattach (s : State) (l : LaneId) : (s.linkReattach l).intake = s.intake := by
  unfold State.linkReattach; split <;> simp
@[simp] theorem State.intake_linkOff (s : State) (l : LaneId) : (s.linkOff l).intake = s.intake := by
  unfold State.linkOff; split <;> simp
@[simp] theorem State.intake_linkOn (s : State) (l : LaneId) : (s.linkOn l).intake = s.intake := by
  unfold State.linkOn
  split
  · split <;> simp
  · rfl
@[simp] theorem State.intake_linkLaneReset (s : State) (l : LaneId) : (s.linkLaneReset l).intake = s.intake := by
  rw [State.linkLaneReset, State.intake_onLink, State.intake_linkReattach]
  rfl

/-- R36, R37: at the attempt limit a link fault, and otherwise what `go` makes of the lane with its error counted. -/
theorem State.intake_transportError (s : State) (e : Nat) (l : LaneId) (go : State → State)
    (h : ∀ t : State, t.intake = s.intake → (t.lane l).link.out = (s.lane l).link.out → (go t).intake = s.intake) :
    (s.transportError e l go).intake = s.intake := by
  have ht : (s.onLane l fun L => L.onLink fun n => { n with errorCount := n.errorCount + 1 }).intake = s.intake :=
    s.intake_onLink l _ rfl
  unfold State.transportError
  dsimp only
  split
  · rw [State.intake_linkFault, ht]
  · exact h _ ht (by simp)

/-! ### Collector.lean, Arbiter.lean -/

@[simp] theorem State.intake_overrun (s : State) (seq : BitVec 16) (l : LaneId) : (s.overrun seq l).intake = s.intake := by
  rw [State.overrun, State.intake_offerLane, State.intake_recordAsync, State.intake_onLane]
  rfl

/-- An admitted packet joins a queue, starts a timer, and sets flags; it takes no reply entry. -/
theorem LaneState.reservedEntries_takeIn (L : LaneState) (p : PacketRecord) :
    (L.takeIn p).reservedEntries = L.reservedEntries := by
  unfold LaneState.takeIn LaneState.recordsJoined LaneState.evalEligible
  split_ifs <;> rfl

@[simp] theorem State.intake_sequenceStep (s : State) (data : List Byte) (damaged urgent : Bool) (l : LaneId) :
    (s.sequenceStep data damaged urgent l).intake = s.intake := by
  unfold State.sequenceStep
  dsimp only
  split
  · rw [State.intake_squeezeAfterAdmission, State.intake_onLane, State.intake_onLane]
    · rfl
    · exact LaneState.reservedEntries_takeIn _ _
  · rw [State.intake_overrun, State.intake_onLane]
    rfl
@[simp] theorem State.intake_classStep (s : State) (data : List Byte) (damaged : Bool) (l : LaneId) :
    (s.classStep data damaged l).intake = s.intake := by
  unfold State.classStep
  split
  · simp
  · simp
  · rfl
  · exact s.intake_onLane l _ rfl
@[simp] theorem State.intake_arrival (s : State) (kept : List Byte) (count : Nat) (l : LaneId) :
    (s.arrival kept count l).intake = s.intake := by
  unfold State.arrival
  split_ifs
  · simp
  · simp
  · exact s.intake_onLane l _ rfl

/-- R94: the choice of a lane moves the arbiter's values alone. -/
theorem State.intake_chooseLane {s t : State} {l : LaneId} (h : s.chooseLane = some (l, t)) : t.intake = s.intake := by
  unfold State.chooseLane at h
  dsimp only at h
  split at h
  · cases h; rfl
  · split_ifs at h <;> cases h <;> rfl
  · cases h; rfl
  · cases h
theorem State.intake_buildDataUp {s t : State} {l : LaneId} {f : Frame} (h : s.buildDataUp l = some (f, t)) :
    t.intake = s.intake := by
  unfold State.buildDataUp at h
  split at h
  · cases h
  · cases h; exact s.intake_onLane l _ rfl

/-- R13: a built frame takes a reply's entry, or none. -/
theorem State.intake_buildFrame {s t : State} {f : Frame} (h : s.buildFrame = some (f, t)) :
    t.intake.1 = s.intake.1 ∧ t.intake.2 ≤ s.intake.2 := by
  unfold State.buildFrame at h
  split at h
  · next r rest hr =>
    cases h
    simp only [State.intake, hr, List.length_cons]
    exact ⟨trivial, by show rest.length + s.reservedEntries ≤ _; omega⟩
  · have ht : t.intake = s.intake := by
      split at h
      · cases h; rfl
      · split at h
        · next hc => rw [State.intake_buildDataUp h, State.intake_chooseLane hc]
        · cases h
    rw [ht]; exact ⟨rfl, le_rfl⟩
@[simp] theorem State.intake_placeFrame (s : State) (f : Frame) : (s.placeFrame f).intake = s.intake := by
  unfold State.placeFrame; split <;> rfl

/-! ### AttachEvents.lean -/

@[simp] theorem State.intake_setPhase (s : State) (p : AttachPhase) (l : LaneId) : (s.setPhase p l).intake = s.intake := by
  apply s.intake_onLink
  split <;> rfl
@[simp] theorem State.intake_judgeIdentity (s : State) (bytes : List Byte) (count : Nat) (l : LaneId) :
    (s.judgeIdentity bytes count l).intake = s.intake := by
  unfold State.judgeIdentity
  split
  · split <;> simp
  · simp
@[simp] theorem State.intake_identityRequest (s : State) (r : OutResult) (l : LaneId) :
    (s.identityRequest r l).intake = s.intake := by cases r <;> simp [State.identityRequest]
@[simp] theorem State.intake_identityRead (s : State) (r : InResult) (p : Poll) (l : LaneId) :
    (s.identityRead r p l).intake = s.intake := by
  cases r with
  | data toggle bytes => simp only [State.identityRead]; split <;> simp
  | nak => simp only [State.identityRead]; split <;> simp
  | stall => simp [State.identityRead]
  | transportError => simp [State.identityRead]

/-! ### StrokeOps.lean, FixtureEvents.lean -/

@[simp] theorem State.intake_startStep (s : State) (l : LaneId) : (s.startStep l).intake = s.intake := by
  unfold State.startStep
  split
  · rfl
  · dsimp only
    split
    · rw [State.intake_offerLane, State.intake_onLane]
      rfl
    · exact s.intake_onLane l _ rfl
@[simp] theorem State.intake_endRun (s : State) (l : LaneId) : (s.endRun l).intake = s.intake := by
  rw [State.endRun, State.intake_offerLane, State.intake_onLane]
  rfl
@[simp] theorem State.intake_afterStep (s : State) (e : Step) (l : LaneId) : (s.afterStep e l).intake = s.intake := by
  unfold State.afterStep
  split
  · simp
  · split
    · exact s.intake_onLane l _ rfl
    · simp
@[simp] theorem State.intake_sample (s : State) (v : Nat) (l : LaneId) : (s.sample v l).intake = s.intake := by
  simp [State.sample, State.intake_onSupply]

/-- R154: a waiting STOP_STROKES is answered. -/
@[simp] theorem State.intake_answerStop (s : State) (l : LaneId) (w : StopWait) :
    (s.answerStop l w).intake = (s.intake.1, s.intake.2 + 1) := by simp [State.answerStop]
theorem State.intake_answerStops (l : LaneId) (ws : List StopWait) (s : State) :
    (ws.foldl (fun t w => t.answerStop l w) s).intake = (s.intake.1, s.intake.2 + ws.length) := by
  induction ws generalizing s with
  | nil => rfl
  | cons w ws ih => rw [List.foldl_cons, ih]; simp; omega

@[simp] theorem State.intake_nestSeated (s : State) (l : LaneId) : (s.nestSeated l).intake = s.intake := by
  simp [State.nestSeated]
theorem LaneState.reservedEntries_stop (L : LaneState) : (L.onStrokes Strokes.stop).reservedEntries = L.reservedEntries := by
  simp [LaneState.reservedEntries, LaneState.sends, LaneState.onStrokes]
@[simp] theorem State.intake_strokesNestEmptied (s : State) (l : LaneId) : (s.strokesNestEmptied l).intake = s.intake := by
  unfold State.strokesNestEmptied
  split
  · rfl
  · rw [State.intake_recordAsync, State.intake_onLane]
    exact LaneState.reservedEntries_stop _
@[simp] theorem State.intake_keepNestEmptied (s : State) (l : LaneId) : (s.keepNestEmptied l).intake = s.intake := by
  unfold State.keepNestEmptied
  split
  · rw [State.intake_onLane, State.intake_recordAsync]
    rfl
  · rfl
@[simp] theorem State.intake_nestEmptied (s : State) (l : LaneId) : (s.nestEmptied l).intake = s.intake := by
  simp [State.nestEmptied, State.intake_onSupply]

/-! ### SendRequests.lean, OutEngine.lean, InEngine.lean -/

@[simp] theorem State.intake_setHalted (s : State) (b : Bool) (l : LaneId) : (s.setHalted b l).intake = s.intake :=
  s.intake_onLane l _ rfl
@[simp] theorem State.intake_flushDown (s : State) (l : LaneId) : (s.flushDown l).intake = s.intake := by
  rw [State.flushDown, State.intake_cancelSends]
  apply s.intake_onLane_lose
  simp [LaneState.reservedEntries, LaneState.sends]; omega
@[simp] theorem State.intake_resetSends (s : State) (l : LaneId) : (s.resetSends l).intake = s.intake := by
  rw [State.resetSends, State.intake_cancelSends]
  apply s.intake_onLane_lose
  simp [LaneState.reservedEntries, LaneState.sends, OutEngine.flight]; omega
@[simp] theorem State.intake_resetFixture (s : State) (l : LaneId) : (s.resetFixture l).intake = s.intake := by
  rw [State.resetFixture, State.intake_onLane, State.intake_discardUpstream]
  exact LaneState.reservedEntries_stop _

/-- A send in flight that goes on holds the entry that it held. -/
theorem State.intake_setOut (s : State) (e : OutEngine) (l : LaneId)
    (h : e.flight.isSome = (s.lane l).link.out.flight.isSome) : (s.setOut e l).intake = s.intake := by
  apply s.intake_onLane
  cases hs : (s.lane l).link.out.flight with
  | none =>
    rw [LaneState.reservedEntries_idle _ hs, LaneState.reservedEntries_idle _ (by simpa [hs] using h)]
    rfl
  | some f =>
    rw [LaneState.reservedEntries_flight (s.lane l) (by simp [hs]), LaneState.reservedEntries_flight _ (h.trans (by simp [hs]))]
    rfl
theorem State.intake_retryWait (s : State) (f : Flight) (l : LaneId)
    (h : (s.lane l).link.out.flight.isSome = true) : (s.retryWait f l).intake = s.intake :=
  s.intake_setOut _ l h.symm
@[simp] theorem State.intake_needClearing (s : State) (e : Endpoint) (l : LaneId) :
    (s.needClearing e l).intake = s.intake := s.intake_onLink l _ rfl

/-- R39: the reply of a send that succeeds takes the entry that it held. -/
theorem State.intake_sendSucceeds (s : State) (f : Flight) (l : LaneId)
    (h : (s.lane l).link.out.flight.isSome = true) : (s.sendSucceeds f l).intake = s.intake := by
  unfold State.sendSucceeds
  dsimp only
  split <;> simp only [State.intake_endSendCheck, State.intake_endSendGood] <;>
  · apply s.intake_onLane_lose
    rw [LaneState.reservedEntries_flight _ h, LaneState.reservedEntries_idle _ rfl]
    dsimp only
    omega

/-- R70, R74: so do the replies of a send that is refused and of the records cancelled with it. -/
theorem State.intake_sendRefused (s : State) (cond : Nat → Cond) (f : Flight) (l : LaneId)
    (h : (s.lane l).link.out.flight.isSome = true) : (s.sendRefused cond f l).intake = s.intake := by
  have hc := splitChain_length (s.lane l).send.queue
  unfold State.sendRefused
  dsimp only
  rw [State.intake_cancelChain, State.intake_endSendCheck, State.intake_offerLane, Nat.add_assoc]
  apply s.intake_onLane_lose
  rw [LaneState.reservedEntries_flight _ h, LaneState.reservedEntries_idle _ rfl]
  split
  · dsimp only; omega
  · dsimp only [List.length_nil]; omega

@[simp] theorem State.intake_setIn (s : State) (e : InEngine) (l : LaneId) : (s.setIn e l).intake = s.intake :=
  s.intake_onLink l _ rfl
@[simp] theorem State.intake_recheckPoll (s : State) (p : Option Poll) (l : LaneId) :
    (s.recheckPoll p l).intake = s.intake := s.intake_setIn _ l
@[simp] theorem State.intake_packetEnds (s : State) (bytes : List Byte) (count : Nat) (l : LaneId) :
    (s.packetEnds bytes count l).intake = s.intake := by
  rw [State.packetEnds, State.intake_recheckPoll, State.intake_arrival, State.intake_onLane, State.intake_setIn]
  rfl
@[simp] theorem State.intake_pollError (s : State) (p : Poll) (l : LaneId) : (s.pollError p l).intake = s.intake :=
  s.intake_transportError 1 l _ fun t ht _ => by rw [State.intake_setIn, ht]
@[simp] theorem State.intake_pollGoesOn (s : State) (p : Poll) (l : LaneId) : (s.pollGoesOn p l).intake = s.intake :=
  s.intake_setIn _ l

end Sys2Proof.Machine
end

section
/-! What the handling of every request keeps (R5, R8, R10): it neither reads nor changes reception, and it takes one
reply entry, which is READY, or stays RESERVED with a send or a waiting STOP_STROKES. -/

namespace Sys2Proof.Machine

/-- A choice by a condition that reception has no part in. -/
theorem State.ite_setRx {c : Prop} [Decidable c] {x : Rx} {a b u v : State} (ha : a = u.setRx x) (hb : b = v.setRx x) :
    (if c then a else b) = (if c then u else v).setRx x := by
  split
  · exact ha
  · exact hb

/-! ### Operations that leave reception alone: they may come before or after it changes -/

@[simp] theorem State.onLane_setRx (s : State) (x : Rx) (l : LaneId) (f : LaneState → LaneState) :
    (s.setRx x).onLane l f = (s.onLane l f).setRx x := rfl
@[simp] theorem State.offerLane_setRx (s : State) (x : Rx) (k : EventKind) (l : LaneId) :
    (s.setRx x).offerLane k l = (s.offerLane k l).setRx x := rfl
@[simp] theorem State.recordLane_setRx (s : State) (x : Rx) (c : Cond) (o : Originator) (l : LaneId) :
    (s.setRx x).recordLane c o l = (s.recordLane c o l).setRx x := rfl
@[simp] theorem State.clearCondition_setRx (s : State) (x : Rx) (o : Originator) (l : LaneId) :
    (s.setRx x).clearCondition o l = (s.clearCondition o l).setRx x := rfl
@[simp] theorem State.answer_setRx (s : State) (x : Rx) (rq : Request) (st : Status) (body : List Byte) :
    (s.setRx x).answer rq st body = (s.answer rq st body).setRx x := rfl
@[simp] theorem State.endSendCheck_setRx (s : State) (x : Rx) (c : Cond) (l : LaneId) (r : SendRecord) :
    (s.setRx x).endSendCheck c l r = (s.endSendCheck c l r).setRx x := rfl

@[simp] theorem State.cancelSends_setRx (x : Rx) (c : Cond) (l : LaneId) (rs : List SendRecord) (s : State) :
    (s.setRx x).cancelSends c l rs = (s.cancelSends c l rs).setRx x := by
  unfold State.cancelSends
  induction rs generalizing s with
  | nil => rfl
  | cons r rs ih => rw [List.foldl_cons, State.endSendCheck_setRx, ih]; rfl

@[simp] theorem State.squeezeAfterAdmission_setRx (s : State) (x : Rx) :
    (s.setRx x).squeezeAfterAdmission = s.squeezeAfterAdmission.setRx x := by
  unfold State.squeezeAfterAdmission
  exact State.ite_setRx rfl rfl
@[simp] theorem State.squeezeAfterRelease_setRx (s : State) (x : Rx) :
    (s.setRx x).squeezeAfterRelease = s.squeezeAfterRelease.setRx x := by
  unfold State.squeezeAfterRelease
  exact State.ite_setRx rfl rfl
@[simp] theorem State.squeezeAfterOptions_setRx (s : State) (x : Rx) :
    (s.setRx x).squeezeAfterOptions = s.squeezeAfterOptions.setRx x := by simp [State.squeezeAfterOptions]
@[simp] theorem State.discardUpstream_setRx (s : State) (x : Rx) (l : LaneId) :
    (s.setRx x).discardUpstream l = (s.discardUpstream l).setRx x := by
  simp [State.discardUpstream, State.releaseUp]

@[simp] theorem State.setLinkState_setRx (s : State) (x : Rx) (k : LinkState) (l : LaneId) :
    (s.setRx x).setLinkState k l = (s.setLinkState k l).setRx x := rfl
@[simp] theorem State.enterWaiting_setRx (s : State) (x : Rx) (l : LaneId) :
    (s.setRx x).enterWaiting l = (s.enterWaiting l).setRx x := by
  unfold State.enterWaiting
  exact State.ite_setRx rfl rfl
@[simp] theorem State.leaveUp_setRx (s : State) (x : Rx) (l : LaneId) :
    (s.setRx x).leaveUp l = (s.leaveUp l).setRx x := by
  simp only [State.leaveUp, State.onLane_setRx, State.lane_setRx, State.cancelSends_setRx, State.offerLane_setRx]
@[simp] theorem State.linkReattach_setRx (s : State) (x : Rx) (l : LaneId) :
    (s.setRx x).linkReattach l = (s.linkReattach l).setRx x := by
  unfold State.linkReattach
  rw [State.lane_setRx]
  cases (s.lane l).link.state <;> simp
@[simp] theorem State.linkOff_setRx (s : State) (x : Rx) (l : LaneId) :
    (s.setRx x).linkOff l = (s.linkOff l).setRx x := by
  unfold State.linkOff
  rw [State.lane_setRx]
  cases (s.lane l).link.state <;> simp
@[simp] theorem State.linkOn_setRx (s : State) (x : Rx) (l : LaneId) :
    (s.setRx x).linkOn l = (s.linkOn l).setRx x := by
  unfold State.linkOn
  rw [State.lane_setRx]
  cases (s.lane l).link.state with
  | disabled => dsimp only; split <;> simp
  | vacant | waiting | attaching | up | failed => rfl
@[simp] theorem State.linkLaneReset_setRx (s : State) (x : Rx) (l : LaneId) :
    (s.setRx x).linkLaneReset l = (s.linkLaneReset l).setRx x := by simp [State.linkLaneReset]
@[simp] theorem State.flushDown_setRx (s : State) (x : Rx) (l : LaneId) :
    (s.setRx x).flushDown l = (s.flushDown l).setRx x := by
  simp only [State.flushDown, State.onLane_setRx, State.lane_setRx, State.cancelSends_setRx]
@[simp] theorem State.resetSends_setRx (s : State) (x : Rx) (l : LaneId) :
    (s.setRx x).resetSends l = (s.resetSends l).setRx x := by
  simp only [State.resetSends, State.onLane_setRx, State.lane_setRx, State.cancelSends_setRx]
@[simp] theorem State.resetFixture_setRx (s : State) (x : Rx) (l : LaneId) :
    (s.setRx x).resetFixture l = (s.resetFixture l).setRx x := by simp [State.resetFixture]

/-! ### One reply -/

/-- What the handling of every request keeps: reception, which it does not read either, and the reply store but for
one entry. -/
structure OneReply (f : State → State) : Prop where
  setRx : ∀ (s : State) (x : Rx), f (s.setRx x) = (f s).setRx x
  intake : ∀ s : State, (f s).intake = (s.intake.1, s.intake.2 + 1)

/-- What a request's handling leaves of reception. -/
theorem OneReply.rx {f : State → State} (h : OneReply f) (s : State) : (f s).rx = s.rx :=
  congrArg Prod.fst (h.intake s)

/-! ### Refusals -/

@[simp] theorem State.intake_goodLane (s : State) (body : List Byte) (l : LaneId) (rq : Request) :
    (s.goodLane body l rq).intake = (s.intake.1, s.intake.2 + 1) := by simp [State.goodLane]
@[simp] theorem State.intake_refuseLane (s : State) (c : Cond) (l : LaneId) (rq : Request) :
    (s.refuseLane c l rq).intake = (s.intake.1, s.intake.2 + 1) := by simp [State.refuseLane]
@[simp] theorem State.intake_refuseDevice (s : State) (c : Cond) (rq : Request) :
    (s.refuseDevice c rq).intake = (s.intake.1, s.intake.2 + 1) := by simp [State.refuseDevice]

theorem oneReply_answer (rq : Request) (st : Status) (body : List Byte) : OneReply (State.answer rq st body) :=
  ⟨fun _ _ => rfl, fun s => s.intake_answer rq st body⟩
theorem oneReply_refuseForm (c : Cond) (rq : Request) : OneReply (State.refuseForm c rq) where
  setRx s x := by unfold State.refuseForm; split <;> rfl
  intake s := by unfold State.refuseForm; split <;> simp
theorem oneReply_refuseAttention (l : LaneId) (rq : Request) : OneReply (State.refuseAttention l rq) :=
  ⟨fun _ _ => rfl, fun s => by simp [State.refuseAttention]⟩

/-! ### ClaimRequests.lean -/

theorem oneReply_claimLane (l : LaneId) (rq : Request) : OneReply (handleClaimLane l rq) where
  setRx s x := by
    unfold handleClaimLane
    rw [State.lane_setRx]
    cases namedBeneficiary rq with
    | none => rfl
    | some n =>
      cases (s.lane l).claim with
      | none => rfl
      | some held => exact State.ite_setRx rfl rfl
  intake s := by
    have hc (c : Option Claim) : (s.setClaim c l).intake = s.intake := s.intake_onLane l _ rfl
    unfold handleClaimLane
    split
    · simp
    · split
      · simp [hc]
      · split <;> simp [hc]

theorem oneReply_yieldLane (l : LaneId) (rq : Request) : OneReply (handleYieldLane l rq) where
  setRx s x := by
    unfold handleYieldLane
    exact State.ite_setRx rfl (State.ite_setRx rfl rfl)
  intake s := by
    have hc (c : Option Claim) : (s.setClaim c l).intake = s.intake := s.intake_onLane l _ rfl
    unfold handleYieldLane
    split_ifs <;> simp [hc]

theorem oneReply_breakClaim (l : LaneId) (rq : Request) : OneReply (handleBreakClaim l rq) where
  setRx s x := by
    unfold handleBreakClaim
    rw [State.lane_setRx]
    cases (s.lane l).claim <;> rfl
  intake s := by
    have hc (t : State) (c : Option Claim) : (t.setClaim c l).intake = t.intake := t.intake_onLane l _ rfl
    unfold handleBreakClaim
    split <;> simp [hc]

theorem oneReply_laneStatus (l : LaneId) (rq : Request) : OneReply (handleLaneStatus l rq) :=
  ⟨fun _ _ => rfl, fun s => s.intake_answer ..⟩

theorem oneReply_laneSense (l : LaneId) (rq : Request) : OneReply (handleLaneSense l rq) where
  setRx _ _ := rfl
  intake s := by
    rw [handleLaneSense, State.intake_answer, State.intake_onLane]
    exact LaneState.reservedEntries_onLink _ _ rfl

theorem oneReply_laneIdentity (l : LaneId) (rq : Request) : OneReply (handleLaneIdentity l rq) :=
  ⟨fun _ _ => rfl, fun s => s.intake_answer ..⟩

/-! ### DeviceRequests.lean -/

theorem oneReply_deviceStatus (rq : Request) : OneReply (handleDeviceStatus rq) :=
  ⟨fun _ _ => rfl, fun s => s.intake_answer ..⟩

theorem oneReply_deviceReset (rq : Request) : OneReply (handleDeviceReset rq) :=
  ⟨fun _ _ => rfl, fun s => ({ s with resetPending := true } : State).intake_answer ..⟩

@[simp] theorem State.intake_applySplit (s : State) (d g : Nat) : (s.applySplit d g).intake = s.intake := by
  have hr : (({ s with downCells := d, reserve := g }).onLanes fun _ L => L.holdAfterOptions).reservedEntries =
      s.reservedEntries := State.reservedEntries_congr fun l => by rw [State.lane_onLanes]; rfl
  unfold State.applySplit
  dsimp only
  split <;> exact congrArg (fun n => (s.rx, s.ready.length + n)) hr

theorem State.applySplit_setRx (s : State) (x : Rx) (d g : Nat) :
    (s.setRx x).applySplit d g = (s.applySplit d g).setRx x := by
  unfold State.applySplit
  exact State.ite_setRx rfl rfl

theorem oneReply_configurePool (rq : Request) : OneReply (handleConfigurePool rq) where
  setRx s x := by
    unfold handleConfigurePool
    dsimp only
    refine State.ite_setRx rfl (State.ite_setRx rfl ?_)
    rw [State.applySplit_setRx, State.answer_setRx]
  intake s := by
    unfold handleConfigurePool
    dsimp only
    split_ifs <;> simp

theorem oneReply_setClassActions (rq : Request) : OneReply (handleSetClassActions rq) where
  setRx s x := by unfold handleSetClassActions; dsimp only; split <;> rfl
  intake s := by
    have hc (table : Vector ClassAction 256) : ({ s with classes := table } : State).intake = s.intake := rfl
    unfold handleSetClassActions
    dsimp only
    split
    · simp
    · rw [State.intake_answer, hc]

theorem oneReply_readClassActions (rq : Request) : OneReply (handleReadClassActions rq) :=
  ⟨fun _ _ => rfl, fun s => s.intake_answer ..⟩

theorem oneReply_openNotices (rq : Request) : OneReply (handleOpenNotices rq) where
  setRx s x := by unfold handleOpenNotices; split <;> rfl
  intake s := by unfold handleOpenNotices; split <;> simp

theorem oneReply_closeNotices (rq : Request) : OneReply (handleCloseNotices rq) where
  setRx s x := by unfold handleCloseNotices; split <;> rfl
  intake s := by unfold handleCloseNotices; split <;> simp

theorem oneReply_setPacing (rq : Request) : OneReply (handleSetPacing rq) :=
  ⟨fun _ _ => rfl, fun s => by simp [handleSetPacing]⟩

/-- A change made lane by lane. -/
theorem State.foldl_setRx {α : Type} (f : State → α → State) (hf : ∀ s x a, f (s.setRx x) a = (f s a).setRx x) (x : Rx)
    (as : List α) (s : State) : as.foldl f (s.setRx x) = (as.foldl f s).setRx x := by
  induction as generalizing s with
  | nil => rfl
  | cons a as ih => rw [List.foldl_cons, hf, ih]; rfl
theorem State.intake_foldl {α : Type} (f : State → α → State) (hf : ∀ s a, (f s a).intake = s.intake) (as : List α)
    (s : State) : (as.foldl f s).intake = s.intake := by
  induction as generalizing s with
  | nil => rfl
  | cons a as ih => rw [List.foldl_cons, ih, hf]

theorem State.startLanes_setRx (o : Originator) (ls : List LaneId) (s : State) (x : Rx) :
    (s.setRx x).startLanes o ls = (s.startLanes o ls).setRx x :=
  State.foldl_setRx _ (fun _ _ _ => rfl) x ls s
@[simp] theorem State.intake_startLanes (o : Originator) (ls : List LaneId) (s : State) :
    (s.startLanes o ls).intake = s.intake := by
  refine State.intake_foldl _ (fun t l => ?_) ls s
  rw [State.intake_clearCondition, State.intake_onLane]
  rfl

theorem oneReply_startStrokes (rq : Request) : OneReply (handleStartStrokes rq) where
  setRx s x := by
    unfold handleStartStrokes
    have ha (o : Originator) (ls : List LaneId) : (s.setRx x).attentionLanes o ls = s.attentionLanes o ls := rfl
    dsimp only [State.lane_setRx]
    rw [ha]
    refine State.ite_setRx rfl ?_
    cases s.attentionLanes rq.originator (namedLanes (u24At rq.body 0)) with
    | cons l more => dsimp only; rw [State.foldl_setRx _ fun _ _ _ => rfl]; rfl
    | nil =>
      cases (namedLanes (u24At rq.body 0)).find? fun l => !(s.lane l).mayAct rq.originator with
      | some l => rfl
      | none =>
        cases (namedLanes (u24At rq.body 0)).find? fun l => (s.lane l).strokesBusy with
        | some l => rfl
        | none =>
          cases (namedLanes (u24At rq.body 0)).find? fun l => !(s.lane l).nest.seated with
          | some l => rfl
          | none => dsimp only; rw [State.startLanes_setRx]; rfl
  intake s := by
    have ha (ls : List LaneId) : (ls.foldl (fun t k => t.clearAttention rq.originator k) s).intake = s.intake :=
      State.intake_foldl _ (fun t l => t.intake_clearAttention _ l) ls s
    unfold handleStartStrokes
    dsimp only
    split
    · simp
    · split
      · rw [State.intake_answer, ha]
      · split
        · simp
        · split
          · simp
          · split <;> simp

theorem oneReply_deviceSense (rq : Request) : OneReply (handleDeviceSense rq) :=
  ⟨fun _ _ => rfl, fun _ => State.intake_answer ..⟩

/-! ### SendRequests.lean -/

/-- R67: an accepted SEND_PACKET holds its entry RESERVED. -/
theorem oneReply_sendPacket (l : LaneId) (rq : Request) : OneReply (handleSendPacket l rq) where
  setRx s x := by
    unfold handleSendPacket
    exact State.ite_setRx rfl (State.ite_setRx rfl (State.ite_setRx rfl rfl))
  intake s := by
    unfold handleSendPacket
    dsimp only
    split_ifs
    · simp
    · simp
    · simp
    · rw [State.intake_onLane_gain _ _ _ 1, State.intake_takeDown]
      simp [LaneState.reservedEntries, LaneState.sends]; omega

theorem oneReply_resumeSend (l : LaneId) (rq : Request) : OneReply (handleResumeSend l rq) :=
  ⟨fun _ _ => rfl, fun s => by simp [handleResumeSend]⟩

theorem oneReply_flushLane (l : LaneId) (rq : Request) : OneReply (handleFlushLane l rq) where
  setRx s x := by
    unfold handleFlushLane
    dsimp only
    split <;> simp [State.goodLane, State.refuseLane]
  intake s := by
    unfold handleFlushLane
    dsimp only
    split <;> simp

theorem oneReply_laneReset (l : LaneId) (rq : Request) : OneReply (handleLaneReset l rq) where
  setRx s x := by simp [handleLaneReset, State.goodLane]
  intake s := by simp [handleLaneReset]

/-! ### LampRequests.lean, LinkRequests.lean, OptionRequests.lean -/

theorem oneReply_setLamp (l : LaneId) (rq : Request) : OneReply (handleSetLamp l rq) where
  setRx s x := by unfold handleSetLamp; split <;> rfl
  intake s := by
    unfold handleSetLamp
    split
    · simp
    · rw [State.intake_goodLane, State.intake_onLane]
      rfl

theorem oneReply_keepPhone (l : LaneId) (rq : Request) : OneReply (handleKeepPhone l rq) where
  setRx s x := by
    unfold handleKeepPhone
    exact State.ite_setRx rfl (State.ite_setRx rfl rfl)
  intake s := by
    unfold handleKeepPhone
    dsimp only
    split_ifs
    · simp
    · simp
    · rw [State.intake_goodLane, State.intake_onLane]
      rfl

theorem oneReply_linkReset (l : LaneId) (rq : Request) : OneReply (handleLinkReset l rq) where
  setRx s x := by
    unfold handleLinkReset
    rw [State.lane_setRx]
    cases (s.lane l).link.state <;> simp [State.goodLane, State.refuseLane]
  intake s := by unfold handleLinkReset; split <;> simp

theorem oneReply_setLink (l : LaneId) (rq : Request) : OneReply (handleSetLink l rq) where
  setRx s x := by
    unfold handleSetLink
    dsimp only
    split_ifs <;> simp [State.goodLane, State.refuseLane]
  intake s := by
    unfold handleSetLink
    dsimp only
    split_ifs <;> simp

theorem LaneState.reservedEntries_applyOptions (body : List Byte) (L : LaneState) :
    (L.applyOptions body).reservedEntries = L.reservedEntries := by
  unfold LaneState.applyOptions LaneState.evalPack LaneState.evalEligible
  split_ifs <;> rfl

theorem oneReply_setLaneOptions (l : LaneId) (rq : Request) : OneReply (handleSetLaneOptions l rq) where
  setRx s x := by
    unfold handleSetLaneOptions
    split <;> simp [State.goodLane, State.refuseLane]
  intake s := by
    unfold handleSetLaneOptions
    split
    · rw [State.intake_goodLane, State.intake_squeezeAfterOptions, State.intake_onLane]
      exact LaneState.reservedEntries_applyOptions _ _
    · simp

/-! ### StrokeRequests.lean, SupplyRequests.lean -/

theorem oneReply_queueStrokes (l : LaneId) (rq : Request) : OneReply (handleQueueStrokes l rq) where
  setRx s x := by
    unfold handleQueueStrokes
    dsimp only
    split
    · rfl
    · exact State.ite_setRx rfl rfl
  intake s := by
    unfold handleQueueStrokes
    dsimp only
    split
    · simp
    · split
      · simp
      · rw [State.intake_goodLane, State.intake_onLane]
        rfl

theorem oneReply_setStrokeTiming (l : LaneId) (rq : Request) : OneReply (handleSetStrokeTiming l rq) where
  setRx _ _ := rfl
  intake s := by
    rw [handleSetStrokeTiming, State.intake_goodLane, State.intake_onLane]
    rfl

/-- R154: outside IDLE a STOP_STROKES holds its entry RESERVED. -/
theorem oneReply_stopStrokes (l : LaneId) (rq : Request) : OneReply (handleStopStrokes l rq) where
  setRx s x := by
    unfold handleStopStrokes
    exact State.ite_setRx rfl rfl
  intake s := by
    have hs : (s.onLane l fun L => L.onStrokes Strokes.stop).intake = s.intake :=
      s.intake_onLane l _ (LaneState.reservedEntries_stop _)
    unfold handleStopStrokes
    dsimp only
    split
    · rw [State.intake_goodLane, hs]
    · rw [State.intake_onLane_gain _ _ _ 1, hs]
      simp [LaneState.reservedEntries, LaneState.sends, LaneState.onStrokes]; omega

theorem oneReply_supply (l : LaneId) (rq : Request) : OneReply (handleSupply l rq) where
  setRx s x := by
    unfold handleSupply
    dsimp only [State.lane_setRx]
    split
    · rfl
    · split
      · rfl
      · cases Supply.act _ _ _ with
        | some u => rfl
        | none => exact State.ite_setRx rfl rfl
  intake s := by
    unfold handleSupply
    dsimp only
    split
    · simp
    · split
      · simp
      · split
        · rw [State.intake_goodLane, State.intake_onLane]
          rfl
        · split <;> simp

theorem oneReply_setTrip (l : LaneId) (rq : Request) : OneReply (handleSetTrip l rq) :=
  ⟨fun _ _ => rfl, fun s => by simp [handleSetTrip, State.intake_onSupply]⟩

theorem oneReply_armWindow (l : LaneId) (rq : Request) : OneReply (handleArmWindow l rq) where
  setRx s x := by
    unfold handleArmWindow
    split
    · rfl
    · exact State.ite_setRx rfl (State.ite_setRx rfl rfl)
  intake s := by
    unfold handleArmWindow
    split
    · simp
    · split_ifs <;> simp [State.intake_onSupply]

theorem oneReply_cancelWindow (l : LaneId) (rq : Request) : OneReply (handleCancelWindow l rq) :=
  ⟨fun _ _ => rfl, fun s => by simp [handleCancelWindow, State.intake_onSupply]⟩

theorem oneReply_readWindow (l : LaneId) (rq : Request) : OneReply (handleReadWindow l rq) :=
  ⟨fun _ _ => rfl, fun s => s.intake_answer ..⟩

/-! ### The request checks keep it -/

theorem OneReply.laneRequest {handle : LaneId → Request → State → State} (h : ∀ l rq, OneReply (handle l rq))
    (access : Access) (ok : Nat → Bool) (rq : Request) : OneReply (laneRequest access ok handle rq) where
  setRx s x := by
    unfold Machine.laneRequest
    split
    · exact State.ite_setRx ((oneReply_refuseForm _ rq).setRx s x) (State.ite_setRx rfl
        (State.ite_setRx rfl ((h _ rq).setRx s x)))
    · exact (oneReply_refuseForm _ rq).setRx s x
  intake s := by
    unfold Machine.laneRequest
    dsimp only
    split_ifs
    · exact (oneReply_refuseForm _ rq).intake s
    · exact (oneReply_refuseAttention _ rq).intake s
    · exact (oneReply_answer rq _ _).intake s
    · exact (h _ rq).intake s
    · exact (oneReply_refuseForm _ rq).intake s

theorem OneReply.deviceRequest {handle : Request → State → State} (h : ∀ rq, OneReply (handle rq))
    (ok : Nat → Bool) (rq : Request) : OneReply (deviceRequest ok handle rq) where
  setRx s x := by
    unfold Machine.deviceRequest
    split_ifs
    · exact (oneReply_refuseForm _ rq).setRx s x
    · exact (oneReply_refuseForm _ rq).setRx s x
    · exact (h rq).setRx s x
  intake s := by
    unfold Machine.deviceRequest
    split_ifs
    · exact (oneReply_refuseForm _ rq).intake s
    · exact (oneReply_refuseForm _ rq).intake s
    · exact (h rq).intake s

end Sys2Proof.Machine
end

section
/-! Every request command is the arrival of its frame, handled as its row of the request table says (section 1.5, R9):
one theorem, which the statements about all requests at once are uses of. -/

namespace Sys2Proof.Machine

/-- How a request of a table row is handled: one that names no row is refused; one of device scope, or of lane scope,
takes the checks of its row and then its own block's handling. -/
inductive Dispatched (rq : Request) : (Request → State → State) → Prop
  | unknown : requestRow rq.code = none → Dispatched rq fun r t => t.refuseForm .unknownRequest r
  | device {row : RequestRow} {ok : Nat → Bool} {handle : Request → State → State} :
    requestRow rq.code = some row → row.device = true → (∀ n, ok n = row.fitsLength n) →
    (∀ r, OneReply (handle r)) → Dispatched rq (deviceRequest ok handle)
  | lane {row : RequestRow} {access : Access} {ok : Nat → Bool} {handle : LaneId → Request → State → State} :
    requestRow rq.code = some row → row.device = false → access.attends = row.acting →
    access.owns = (row.acting && !row.claims) → (∀ n, ok n = row.fitsLength n) →
    (∀ l r, OneReply (handle l r)) → Dispatched rq (laneRequest access ok handle)

theorem Dispatched.oneReply {rq : Request} {handle : Request → State → State} (h : Dispatched rq handle) :
    OneReply (handle rq) := by
  cases h with
  | unknown _ => exact oneReply_refuseForm _ rq
  | device _ _ _ hh => exact OneReply.deviceRequest hh _ rq
  | lane _ _ _ _ _ hh => exact OneReply.laneRequest hh _ _ rq

theorem exactly_eq_fitsLength (device acting claims : Bool) (k n : Nat) :
    exactly k n = RequestRow.fitsLength ⟨device, acting, claims, k, k, 1⟩ n := by
  rw [Bool.eq_iff_iff]
  simp only [exactly, RequestRow.fitsLength, decide_eq_true_eq, Bool.and_eq_true, Nat.mod_one, and_true]
  omega

/-- Of the 256 codes, those that name no request have no row. -/
theorem requestRow_of_unnamed : ∀ code : Byte, namesRequest code = false → requestRow code = none := by decide

/-- A request command is the arrival of its frame, handled as its row of the table says. -/
theorem exec_request {i : Instr} {rq : Request} (h : requestOf i = some rq) :
    ∃ handle, Dispatched rq handle ∧ ∀ s, exec i s = .next (arrive rq handle s) := by
  cases i with
  | unknownRequest o lane code tag body =>
    simp only [requestOf] at h
    split at h
    · cases h
    · next hn =>
      cases h
      refine ⟨_, .unknown (requestRow_of_unnamed code (by simpa using hn)), fun s => ?_⟩
      simp only [exec, execUnknownRequest, if_neg hn]
  | deviceStatus o lane tag body =>
    cases h
    exact ⟨_, .device rfl rfl (exactly_eq_fitsLength _ _ _ _) oneReply_deviceStatus, fun _ => rfl⟩
  | deviceReset o lane tag body =>
    cases h
    exact ⟨_, .device rfl rfl (exactly_eq_fitsLength _ _ _ _) oneReply_deviceReset, fun _ => rfl⟩
  | configurePool o lane tag body =>
    cases h
    exact ⟨_, .device rfl rfl (exactly_eq_fitsLength _ _ _ _) oneReply_configurePool, fun _ => rfl⟩
  | setClassActions o lane tag body =>
    cases h
    exact ⟨_, .device rfl rfl (fun n => by simp [RequestRow.fitsLength, Nat.mod_one]) oneReply_setClassActions, fun _ => rfl⟩
  | readClassActions o lane tag body =>
    cases h
    exact ⟨_, .device rfl rfl (exactly_eq_fitsLength _ _ _ _) oneReply_readClassActions, fun _ => rfl⟩
  | openNotices o lane tag body =>
    cases h
    exact ⟨_, .device rfl rfl (exactly_eq_fitsLength _ _ _ _) oneReply_openNotices, fun _ => rfl⟩
  | closeNotices o lane tag body =>
    cases h
    exact ⟨_, .device rfl rfl (exactly_eq_fitsLength _ _ _ _) oneReply_closeNotices, fun _ => rfl⟩
  | setPacing o lane tag body =>
    cases h
    exact ⟨_, .device rfl rfl (exactly_eq_fitsLength _ _ _ _) oneReply_setPacing, fun _ => rfl⟩
  | startStrokes o lane tag body =>
    cases h
    exact ⟨_, .device rfl rfl (exactly_eq_fitsLength _ _ _ _) oneReply_startStrokes, fun _ => rfl⟩
  | deviceSense o lane tag body =>
    cases h
    exact ⟨_, .device rfl rfl (exactly_eq_fitsLength _ _ _ _) oneReply_deviceSense, fun _ => rfl⟩
  | claimLane o lane tag body =>
    cases h
    exact ⟨_, .lane rfl rfl rfl rfl (fun n => by simp [RequestRow.fitsLength, Nat.mod_one]) oneReply_claimLane, fun _ => rfl⟩
  | yieldLane o lane tag body =>
    cases h
    exact ⟨_, .lane rfl rfl rfl rfl (exactly_eq_fitsLength _ _ _ _) oneReply_yieldLane, fun _ => rfl⟩
  | breakClaim o lane tag body =>
    cases h
    exact ⟨_, .lane rfl rfl rfl rfl (exactly_eq_fitsLength _ _ _ _) oneReply_breakClaim, fun _ => rfl⟩
  | laneStatus o lane tag body =>
    cases h
    exact ⟨_, .lane rfl rfl rfl rfl (exactly_eq_fitsLength _ _ _ _) oneReply_laneStatus, fun _ => rfl⟩
  | laneSense o lane tag body =>
    cases h
    exact ⟨_, .lane rfl rfl rfl rfl (exactly_eq_fitsLength _ _ _ _) oneReply_laneSense, fun _ => rfl⟩
  | laneIdentity o lane tag body =>
    cases h
    exact ⟨_, .lane rfl rfl rfl rfl (exactly_eq_fitsLength _ _ _ _) oneReply_laneIdentity, fun _ => rfl⟩
  | setLaneOptions o lane tag body =>
    cases h
    exact ⟨_, .lane rfl rfl rfl rfl (exactly_eq_fitsLength _ _ _ _) oneReply_setLaneOptions, fun _ => rfl⟩
  | laneReset o lane tag body =>
    cases h
    exact ⟨_, .lane rfl rfl rfl rfl (exactly_eq_fitsLength _ _ _ _) oneReply_laneReset, fun _ => rfl⟩
  | sendPacket o lane tag body =>
    cases h
    exact ⟨_, .lane rfl rfl rfl rfl (fun n => by simp [RequestRow.fitsLength, Nat.mod_one]) oneReply_sendPacket, fun _ => rfl⟩
  | resumeSend o lane tag body =>
    cases h
    exact ⟨_, .lane rfl rfl rfl rfl (exactly_eq_fitsLength _ _ _ _) oneReply_resumeSend, fun _ => rfl⟩
  | flushLane o lane tag body =>
    cases h
    exact ⟨_, .lane rfl rfl rfl rfl (exactly_eq_fitsLength _ _ _ _) oneReply_flushLane, fun _ => rfl⟩
  | linkReset o lane tag body =>
    cases h
    exact ⟨_, .lane rfl rfl rfl rfl (exactly_eq_fitsLength _ _ _ _) oneReply_linkReset, fun _ => rfl⟩
  | setLink o lane tag body =>
    cases h
    exact ⟨_, .lane rfl rfl rfl rfl (exactly_eq_fitsLength _ _ _ _) oneReply_setLink, fun _ => rfl⟩
  | supply o lane tag body =>
    cases h
    exact ⟨_, .lane rfl rfl rfl rfl (exactly_eq_fitsLength _ _ _ _) oneReply_supply, fun _ => rfl⟩
  | setTrip o lane tag body =>
    cases h
    exact ⟨_, .lane rfl rfl rfl rfl (exactly_eq_fitsLength _ _ _ _) oneReply_setTrip, fun _ => rfl⟩
  | armWindow o lane tag body =>
    cases h
    exact ⟨_, .lane rfl rfl rfl rfl (exactly_eq_fitsLength _ _ _ _) oneReply_armWindow, fun _ => rfl⟩
  | cancelWindow o lane tag body =>
    cases h
    exact ⟨_, .lane rfl rfl rfl rfl (exactly_eq_fitsLength _ _ _ _) oneReply_cancelWindow, fun _ => rfl⟩
  | readWindow o lane tag body =>
    cases h
    exact ⟨_, .lane rfl rfl rfl rfl (exactly_eq_fitsLength _ _ _ _) oneReply_readWindow, fun _ => rfl⟩
  | queueStrokes o lane tag body =>
    cases h
    exact ⟨_, .lane rfl rfl rfl rfl (fun _ => rfl) oneReply_queueStrokes, fun _ => rfl⟩
  | stopStrokes o lane tag body =>
    cases h
    exact ⟨_, .lane rfl rfl rfl rfl (exactly_eq_fitsLength _ _ _ _) oneReply_stopStrokes, fun _ => rfl⟩
  | setStrokeTiming o lane tag body =>
    cases h
    exact ⟨_, .lane rfl rfl rfl rfl (exactly_eq_fitsLength _ _ _ _) oneReply_setStrokeTiming, fun _ => rfl⟩
  | setLamp o lane tag body =>
    cases h
    exact ⟨_, .lane rfl rfl rfl rfl (exactly_eq_fitsLength _ _ _ _) oneReply_setLamp, fun _ => rfl⟩
  | keepPhone o lane tag body =>
    cases h
    exact ⟨_, .lane rfl rfl rfl rfl (exactly_eq_fitsLength _ _ _ _) oneReply_keepPhone, fun _ => rfl⟩
  | _ => cases h

end Sys2Proof.Machine
end

section
/-! The reply store is never overfilled (R6, R7): reception begins a frame only where an entry is FREE, and every command
gives back each entry that it takes, but for the one reply of a request. -/

namespace Sys2Proof.Machine

/-! ### Reception -/

/-- A byte taken where a frame is begun, or may be, leaves reception outside HUNT only with a frame begun. -/
theorem Rx.takeByte_hunts (x : Rx) (b : Byte) (hx : x.begun = false → x.phase = .hunt) :
    (x.takeByte b).begun = false → (x.takeByte b).phase = .hunt := by
  have hb : x.phase ≠ .hunt → x.begun = true := fun hp => by
    by_contra h
    exact hp (hx (by simpa using h))
  unfold Rx.takeByte
  split
  · split_ifs <;> simp
  · next hp =>
    dsimp only
    split <;> simp [hb (by simp [hp])]
  · next hp => simp [hb (by simp [hp])]
  · next hp => simp [hb (by simp [hp])]

/-- R6: reception that runs begins a frame only where it may, and is outside HUNT only with a frame begun. -/
theorem Rx.run_sound (m : Bool) : ∀ (bytes : List Byte) (x : Rx), (x.begun = false → x.phase = .hunt) →
    ((Rx.run m x bytes).1.begun = true → x.begun = true ∨ m = true) ∧
      ((Rx.run m x bytes).1.begun = false → (Rx.run m x bytes).1.phase = .hunt) := by
  intro bytes
  induction bytes with
  | nil => exact fun x hx => ⟨.inl, hx⟩
  | cons b bytes ih =>
    intro x hx
    rw [Rx.run]
    split
    · exact ⟨.inl, hx⟩
    · next hc =>
      have hm : x.begun = true ∨ m = true := by
        cases hb : x.begun <;> cases hm : m <;> simp [hb, hm] at hc ⊢
      exact ⟨fun _ => hm, (ih _ (x.takeByte_hunts b hx)).2⟩

theorem State.pump_sound {s : State} (h : s.repliesSound) : s.pump.repliesSound := by
  obtain ⟨hle, hlt, hh⟩ := h
  obtain ⟨hb, hp⟩ := Rx.run_sound s.mayBegin s.rx.buf (s.rx.withBuf []) hh
  exact ⟨hle, fun hr => (hb hr).elim hlt fun hm => (s.mayBegin_iff.1 hm).1, hp⟩

/-- Reception in HUNT with no frame begun asks for no entry. -/
theorem State.setRx_idle_sound {s : State} (buf : List Byte) (h : s.repliesSound) :
    (s.setRx (Rx.idle.withBuf buf)).repliesSound :=
  ⟨h.1, fun hb => (Bool.false_ne_true hb).elim, fun _ => rfl⟩

/-- R6: a frame that ends has been begun, or may be: there is an entry FREE for its reply. -/
theorem State.takeRequest_sound {s t : State} {rq : Request} (h : s.repliesSound) (ht : s.takeRequest rq = some t) :
    ∃ buf, t.intake = (Rx.idle.withBuf buf, s.intake.2) ∧ s.intake.2 < 448 := by
  obtain ⟨hle, hlt, hh⟩ := h
  unfold State.takeRequest at ht
  split at ht
  · next hv =>
    cases ht
    refine ⟨s.rx.buf.tail, rfl, hlt ?_⟩
    by_contra hb
    have hp := hh (by simpa using hb)
    cases hbuf : s.rx.buf <;> simp [State.verdict, hbuf, Rx.judges, hp] at hv
  · split at ht
    · next hl =>
      cases ht
      refine ⟨[], rfl, ?_⟩
      simp only [State.listening, Bool.and_eq_true, Bool.or_eq_true] at hl
      obtain ⟨⟨-, hb⟩, -⟩ := hl
      exact hb.elim hlt fun hm => (s.mayBegin_iff.1 hm).1
    · cases ht

/-- R7, R8: the one entry that a request takes is the FREE one. -/
theorem arrive_sound {s : State} {rq : Request} {handle : Request → State → State} (hr : OneReply (handle rq))
    (h : s.repliesSound) : (arrive rq handle s).repliesSound := by
  unfold arrive
  split
  · exact h
  · next t ht =>
    obtain ⟨buf, hi, hlt⟩ := State.takeRequest_sound h ht
    apply State.pump_sound
    rw [State.repliesSound_iff, hr.intake, hi]
    exact ⟨hlt, fun hb => (Bool.false_ne_true hb).elim, fun _ => rfl⟩

/-! ### Commands that are no request -/

/-- A command that leaves reception, and takes no reply entry that it does not give back. -/
theorem State.repliesSound_of_intake {s t : State} (h : s.repliesSound) (h1 : t.intake.1 = s.intake.1)
    (h2 : t.intake.2 ≤ s.intake.2) : t.repliesSound := by
  obtain ⟨hle, hlt, hh⟩ := h
  rw [State.repliesSound_iff, intakeSound, h1]
  exact ⟨h2.trans hle, fun hb => h2.trans_lt (hlt hb), hh⟩

/-- A reset of the link or of the part leaves no reply READY and reception in HUNT. -/
theorem State.repliesSound_of_reset {s t : State} (h : s.repliesSound) (hx : t.rx = Rx.idle) (hr : t.ready = [])
    (hl : t.reservedEntries ≤ s.reservedEntries) : t.repliesSound := by
  have hle : s.ready.length + s.reservedEntries ≤ 448 := h.1
  refine ⟨?_, fun hb => absurd hb (by rw [hx]; decide), fun _ => by rw [hx]; rfl⟩
  rw [hr]
  simp only [List.length_nil]
  omega

theorem LaneState.reservedEntries_returned (L : LaneState) (records : List PacketRecord) :
    (L.returned records).reservedEntries = L.reservedEntries := by
  unfold LaneState.returned LaneState.recordsJoined LaneState.evalEligible
  split_ifs <;> rfl

theorem State.reservedEntries_stationLinkReset (s : State) : s.stationLinkReset.reservedEntries = s.reservedEntries := by
  refine State.reservedEntries_congr fun l => ?_
  calc (s.stationLinkReset.lane l).reservedEntries
      = ((s.lane l).returned (recordsFor l s.transmitting ++ recordsFor l s.staged)).reservedEntries := by
        simp only [State.stationLinkReset, State.lane, State.onLanes]
        simp [LaneState.reservedEntries, LaneState.sends]
    _ = (s.lane l).reservedEntries := LaneState.reservedEntries_returned _ _

theorem State.lane_deviceReset (s : State) (running : Bool) (l : LaneId) :
    (s.deviceReset running).lane l = LaneState.afterReset (s.lane l).link.line (s.lane l).nest.raw running := by
  simp [State.deviceReset, State.lane]

theorem State.reservedEntries_deviceReset (s : State) (running : Bool) : (s.deviceReset running).reservedEntries = 0 := by
  rw [State.reservedEntries_eq_sum]
  exact Finset.sum_eq_zero fun l _ => by rw [State.lane_deviceReset]; rfl

theorem State.deviceReset_sound {s t : State} (h : s.repliesSound) (running : Bool) : (t.deviceReset running).repliesSound :=
  State.repliesSound_of_reset h rfl rfl (by rw [State.reservedEntries_deviceReset]; omega)

theorem State.leaveConfigured_sound {s t : State} (h : s.repliesSound) (hl : t.lanes = s.lanes) (p : PortState) :
    (t.leaveConfigured p).repliesSound := by
  unfold State.leaveConfigured
  dsimp only
  split
  · exact State.deviceReset_sound h true
  · refine State.repliesSound_of_reset h rfl rfl ?_
    rw [State.reservedEntries_stationLinkReset, State.reservedEntries, State.reservedEntries, hl]

theorem State.transferred_sound {s : State} (f : Frame) (h : s.repliesSound) : (s.transferred f).repliesSound := by
  unfold State.transferred
  split
  · split
    · exact State.deviceReset_sound h true
    · exact h
  · exact h
  · exact State.repliesSound_of_intake h (by simp) (by simp)

/-- A command that leaves reception and the number of reply entries in use. -/
def KeepsIntake (f : State → Answer) : Prop := ∀ s : State, ∃ t, f s = .next t ∧ t.intake = s.intake

theorem KeepsIntake.sound {f : State → Answer} (hf : KeepsIntake f) {s t : State} (h : s.repliesSound)
    (ht : f s = .next t) : t.repliesSound := by
  obtain ⟨u, hu, hi⟩ := hf s
  obtain rfl : u = t := Host.Outcome.next.inj (hu.symm.trans ht)
  exact State.repliesSound_of_intake h (by rw [hi]) (by rw [hi])

/-- An expiry that lets time pass and then changes one lane. -/
theorem State.intake_advance_onLane (s : State) (d : Nat) (l : LaneId) (f : LaneState → LaneState)
    (h : ∀ L, (f L).reservedEntries = L.reservedEntries) : ((s.advance d).onLane l f).intake = s.intake := by
  rw [State.intake_onLane _ _ _ (h _), State.intake_advance]

/-! Lines and attaches (R25 to R33). -/

theorem keepsIntake_lineStateChange (l : LaneId) (shows : Bool) : KeepsIntake (execLineStateChange l shows) :=
  fun s => ⟨_, rfl, s.intake_onLink l _ rfl⟩
theorem keepsIntake_connectDetection (l : LaneId) : KeepsIntake (execConnectDetection l) := fun s => ⟨_, rfl, by
  split
  · rfl
  · rw [State.intake_linkConnect, State.intake_advance_onLane]
    exact fun L => L.reservedEntries_onLink _ rfl⟩
theorem keepsIntake_disconnectDetection (l : LaneId) : KeepsIntake (execDisconnectDetection l) := fun s => ⟨_, rfl, by
  split
  · rw [State.intake_linkDisconnect, State.intake_onLink]
    rfl
  · rfl⟩
theorem keepsIntake_portResetEnd (l : LaneId) (b : Bool) : KeepsIntake (execPortResetEnd l b) := fun s => ⟨_, rfl, by
  split
  · rw [State.intake_setPhase, State.intake_advance_onLane]
    exact fun L => L.reservedEntries_onLink _ rfl
  · rfl⟩
theorem keepsIntake_enumerationTransferDone (l : LaneId) (r : EnumResult) :
    KeepsIntake (execEnumerationTransferDone l r) := fun s => ⟨_, rfl, by
  split
  · next stage _ =>
    have ht : (s.onLane l fun L => L.onLink (Link.enumerated stage r)).intake = s.intake :=
      s.intake_onLink l _ (by rw [Link.enumerated_out])
    dsimp only
    split <;> simp only [State.intake_setPhase, State.intake_attachFails, ht]
  · rfl⟩
theorem keepsIntake_attachRetryExpiry (l : LaneId) : KeepsIntake (execAttachRetryExpiry l) :=
  fun s => ⟨_, rfl, by split <;> simp⟩
theorem keepsIntake_identityTransactionDone (l : LaneId) (r : IdentityResult) :
    KeepsIntake (execIdentityTransactionDone l r) := fun s => ⟨_, rfl, by
  split
  · split <;> simp
  · rfl⟩
theorem keepsIntake_identityReadTimeout (l : LaneId) : KeepsIntake (execIdentityReadTimeout l) :=
  fun s => ⟨_, rfl, by split <;> simp⟩
theorem keepsIntake_attachTimerExpiry (l : LaneId) : KeepsIntake (execAttachTimerExpiry l) :=
  fun s => ⟨_, rfl, by split <;> simp⟩

/-! The engines (R36 to R43). -/

/-- R38: the record that starts leaves the queue and is in flight. -/
theorem keepsIntake_sendStart (l : LaneId) : KeepsIntake (execSendStart l) := fun s => ⟨_, rfl, by
  split
  · rfl
  · next r rest hq =>
    split
    · next hm =>
      have ho : (s.lane l).link.out = .idle := by
        simp only [LaneState.maySend, Bool.and_eq_true, beq_iff_eq] at hm
        exact hm.1.1.2
      unfold State.setOut
      rw [State.onLane_onLane]
      apply s.intake_onLane
      rw [LaneState.reservedEntries_flight _ rfl, LaneState.reservedEntries_idle _ (by rw [ho]; rfl), hq]
      rfl
    · rfl⟩
theorem keepsIntake_outTransactionDone (l : LaneId) (r : OutResult) : KeepsIntake (execOutTransactionDone l r) :=
  fun s => ⟨_, rfl, by
  split
  · next f left ho =>
    have hz : (((s.zeroErrors l).lane l).link.out.flight).isSome = true := by simp [State.zeroErrors, ho, OutEngine.flight]
    have ht : ((((s.zeroErrors l).tookOut l).lane l).link.out.flight).isSome = true := by
      simp [State.zeroErrors, ho, OutEngine.flight]
    cases r with
    | accepted =>
      dsimp only
      split
      · rw [State.intake_sendSucceeds _ _ _ ht]; simp
      · rw [State.intake_setOut]
        · simp
        · exact ht.symm
    | nak =>
      dsimp only
      rw [State.intake_setOut]
      · simp
      · exact hz.symm
    | stall => dsimp only; rw [State.intake_needClearing, State.intake_sendRefused _ _ _ _ hz]; simp
    | transportError =>
      refine s.intake_transportError 0 l _ fun t ht hout => ?_
      split
      · rw [State.intake_linkFault, ht]
      · rw [State.intake_retryWait _ _ _ (by rw [hout, ho]; rfl), ht]
  · rfl
  · rfl⟩

theorem State.flight_advance (s : State) (d : Nat) (l : LaneId) :
    ((s.advance d).lane l).link.out.flight = (s.lane l).link.out.flight := by
  rw [State.lane_advance]
  exact OutEngine.flight_pass d _

theorem keepsIntake_sendTimerExpiry (l : LaneId) : KeepsIntake (execSendTimerExpiry l) := fun s => ⟨_, rfl, by
  split
  · next f left ho =>
    have hf : (((s.advance left).lane l).link.out.flight).isSome = true := by rw [State.flight_advance, ho]; rfl
    split
    · rw [State.intake_sendRefused _ _ _ _ hf, State.intake_advance]
    · rw [State.intake_retryWait _ _ _ hf, State.intake_advance]
  · rfl
  · rfl⟩
theorem keepsIntake_retryWaitEnd (l : LaneId) : KeepsIntake (execRetryWaitEnd l) := fun s => ⟨_, rfl, by
  split
  · next f left ho =>
    rw [State.intake_setOut _ _ _ (by rw [State.flight_advance, ho]; rfl), State.intake_advance]
  · rfl
  · rfl⟩
theorem keepsIntake_stallClearingDone (l : LaneId) (r : ClearResult) : KeepsIntake (execStallClearingDone l r) :=
  fun s => ⟨_, rfl, by
  split
  · next e rest _ _ =>
    have hc : ((s.zeroErrors l).onLane l fun L => L.onLink (Link.clearingEnds e rest)).intake = s.intake := by
      rw [State.intake_onLink, State.intake_zeroErrors]
      rw [Link.clearingEnds_out]
    cases r with
    | cleared => exact hc
    | stall => exact hc
    | nak => rfl
    | transportError =>
      refine s.intake_transportError _ l _ fun t ht _ => ?_
      rw [State.intake_onLink, ht]
      rfl
  · rfl⟩
theorem keepsIntake_stallClearingRetry (l : LaneId) : KeepsIntake (execStallClearingRetry l) := fun s => ⟨_, rfl, by
  split
  · rw [State.intake_advance_onLane]
    exact fun L => L.reservedEntries_onLink _ rfl
  · rfl⟩
theorem keepsIntake_pollIssue (l : LaneId) : KeepsIntake (execPollIssue l) := fun s => ⟨_, rfl, by split <;> simp⟩
theorem keepsIntake_inTransactionDone (l : LaneId) (r : InResult) : KeepsIntake (execInTransactionDone l r) :=
  fun s => ⟨_, rfl, by
  split
  · cases r with
    | data toggle bytes => dsimp only; split <;> simp
    | nak => dsimp only; split <;> simp
    | stall => simp
    | transportError => simp
  · rfl⟩
theorem keepsIntake_pollNakTimeout (l : LaneId) : KeepsIntake (execPollNakTimeout l) := fun s => ⟨_, rfl, by
  split
  · rw [State.intake_transportError _ _ _ _ fun t ht _ => by rw [State.intake_setIn, ht], State.intake_advance]
  · rfl
  · rfl⟩
theorem keepsIntake_pollWaitEnd (l : LaneId) : KeepsIntake (execPollWaitEnd l) := fun s => ⟨_, rfl, by
  split
  · simp
  · split <;> simp
  · rfl
  · rfl⟩

/-! The collector, the fixture and the arbiter's timer. -/

theorem keepsIntake_packTimerExpiry (l : LaneId) : KeepsIntake (execPackTimerExpiry l) := fun s => ⟨_, rfl, by
  split
  · rw [State.intake_onUpstream, State.intake_advance]
  · rfl⟩
theorem keepsIntake_sampleEvent (l : LaneId) (v : Fin 4096) : KeepsIntake (execSampleEvent l v) := fun s => ⟨_, rfl, by
  split
  · dsimp only; rw [State.intake_onSupply, State.intake_sample, State.intake_advance]
  · rfl⟩
theorem keepsIntake_startInstant (l : LaneId) : KeepsIntake (execStartInstant l) :=
  fun s => ⟨_, rfl, by split <;> simp⟩
theorem keepsIntake_stepEnd (l : LaneId) : KeepsIntake (execStepEnd l) := fun s => ⟨_, rfl, by split <;> simp⟩
theorem keepsIntake_releaseGapEnd (l : LaneId) : KeepsIntake (execReleaseGapEnd l) :=
  fun s => ⟨_, rfl, by split <;> simp⟩

/-- R154: every waiting STOP_STROKES is answered from the entry that it held. -/
theorem keepsIntake_retractEnd (l : LaneId) : KeepsIntake (execRetractEnd l) := fun s => ⟨_, rfl, by
  split
  · next left _ =>
    rw [State.intake_answerStops, ← s.intake_advance left]
    apply (s.advance left).intake_onLane_lose
    simp only [State.lane_advance, LaneState.onStrokes, LaneState.reservedEntries, LaneState.sends, LaneState.pass,
      List.length_nil, Nat.add_zero]
  · rfl⟩
theorem keepsIntake_nestInputChange (l : LaneId) (b : Bool) : KeepsIntake (execNestInputChange l b) :=
  fun s => ⟨_, rfl, s.intake_onLane l _ rfl⟩
theorem keepsIntake_nestQualificationEnd (l : LaneId) : KeepsIntake (execNestQualificationEnd l) :=
  fun s => ⟨_, rfl, by
  split
  · next left _ =>
    have ht : ((s.advance left).onLane l fun L => { L with nest := { L.nest with seated := L.nest.raw, qual := none } }).intake
        = s.intake := s.intake_advance_onLane left l _ fun _ => rfl
    dsimp only
    split
    · rw [State.intake_nestSeated, ht]
    · rw [State.intake_nestEmptied, ht]
  · rfl⟩
theorem keepsIntake_activityTimerExpiry (l : LaneId) : KeepsIntake (execActivityTimerExpiry l) := fun s => ⟨_, rfl, by
  split
  · exact s.intake_advance_onLane _ l _ fun _ => rfl
  · rfl⟩
theorem keepsIntake_pacingTimerExpiry (o : Originator) : KeepsIntake (execPacingTimerExpiry o) :=
  fun s => ⟨_, rfl, by split <;> simp⟩

/-! The port. -/

theorem keepsIntake_setConfiguration : KeepsIntake execSetConfiguration := fun _ => ⟨_, rfl, by split <;> rfl⟩
theorem keepsIntake_vbusPresent : KeepsIntake execVbusPresent := fun _ => ⟨_, rfl, by split <;> rfl⟩
theorem keepsIntake_suspend : KeepsIntake execSuspend := fun _ => ⟨_, rfl, by split <;> rfl⟩
theorem keepsIntake_resume : KeepsIntake execResume := fun _ => ⟨_, rfl, rfl⟩

/-! ### Every command -/

theorem execFrameDiscarded_sound {bytes : List Byte} {s t : State} (h : s.repliesSound)
    (ht : execFrameDiscarded bytes s = .next t) : t.repliesSound := by
  obtain rfl := Host.Outcome.next.inj ht
  extract_lets u
  have hu : u.repliesSound := by
    unfold u
    split
    · exact h
    · split
      · exact State.pump_sound (s := s.setRx (s.rx.withBuf bytes)) h
      · exact h
  split
  · exact State.pump_sound (State.setRx_idle_sound _ hu)
  · exact h

theorem execOutDataPacket_sound {bytes : List Byte} {s t : State} (h : s.repliesSound)
    (ht : execOutDataPacket bytes s = .next t) : t.repliesSound := by
  obtain rfl := Host.Outcome.next.inj ht
  split
  · exact State.pump_sound (s := s.setRx (s.rx.withBuf bytes)) h
  · exact h

theorem execFrameBuild_sound {s t : State} (h : s.repliesSound) (ht : execFrameBuild s = .next t) : t.repliesSound := by
  obtain rfl := Host.Outcome.next.inj ht
  split
  · split
    · next f u hb =>
      obtain ⟨h1, h2⟩ := State.intake_buildFrame hb
      exact State.repliesSound_of_intake h (by rw [State.intake_placeFrame, h1]) (by rw [State.intake_placeFrame]; exact h2)
    · exact h
  · exact h

theorem execInTransferDone_sound {s t : State} (h : s.repliesSound) (ht : execInTransferDone s = .next t) :
    t.repliesSound := by
  obtain rfl := Host.Outcome.next.inj ht
  split
  · split
    · exact State.transferred_sound _ (s := { s with transmitting := s.staged, staged := none }) h
    · exact h
  · exact h

theorem execDeconfigure_sound {s t : State} (h : s.repliesSound) (ht : execDeconfigure s = .next t) : t.repliesSound := by
  obtain rfl := Host.Outcome.next.inj ht
  split
  · refine State.leaveConfigured_sound (s := s) h ?_ _
    rfl
  · exact h

theorem execBusReset_sound {s t : State} (h : s.repliesSound) (ht : execBusReset s = .next t) : t.repliesSound := by
  obtain rfl := Host.Outcome.next.inj ht
  split
  · exact h
  · exact h
  · refine State.leaveConfigured_sound (s := s) h ?_ _
    rfl

theorem execVbusLoss_sound {s t : State} (h : s.repliesSound) (ht : execVbusLoss s = .next t) : t.repliesSound := by
  obtain rfl := Host.Outcome.next.inj ht
  dsimp only
  split
  · exact h
  · exact h
  · refine State.leaveConfigured_sound (s := s) h ?_ _
    rfl

theorem execHardReset_sound {s t : State} (h : s.repliesSound) (ht : execHardReset s = .next t) : t.repliesSound := by
  obtain rfl := Host.Outcome.next.inj ht
  exact State.deviceReset_sound h _

theorem execHardResetRelease_sound {s t : State} (h : s.repliesSound) (ht : execHardResetRelease s = .next t) :
    t.repliesSound := by
  obtain rfl := Host.Outcome.next.inj ht
  split
  · exact State.deviceReset_sound h _
  · exact h

theorem exec_repliesSound (i : Instr) {s t : State} (h : s.repliesSound) (ht : exec i s = .next t) : t.repliesSound := by
  cases hq : requestOf i with
  | some rq =>
    obtain ⟨handle, hd, he⟩ := exec_request hq
    obtain rfl := Host.Outcome.next.inj ((he s).symm.trans ht)
    exact arrive_sound hd.oneReply h
  | none =>
    cases i with
    | frameDiscarded bytes => exact execFrameDiscarded_sound h ht
    | unknownRequest o lane code tag body =>
      simp only [requestOf] at hq
      split at hq
      · next hn =>
        simp only [exec, execUnknownRequest, if_pos hn] at ht
        obtain rfl := Host.Outcome.next.inj ht
        exact h
      · cases hq
    | outResume => obtain rfl := Host.Outcome.next.inj ht; exact State.pump_sound h
    | setConfiguration => exact keepsIntake_setConfiguration.sound h ht
    | deconfigure => exact execDeconfigure_sound h ht
    | busReset => exact execBusReset_sound h ht
    | vbusLoss => exact execVbusLoss_sound h ht
    | vbusPresent => exact keepsIntake_vbusPresent.sound h ht
    | suspend => exact keepsIntake_suspend.sound h ht
    | resume => exact keepsIntake_resume.sound h ht
    | hardReset => exact execHardReset_sound h ht
    | frameBuild => exact execFrameBuild_sound h ht
    | inTransferDone => exact execInTransferDone_sound h ht
    | pacingTimerExpiry o => exact (keepsIntake_pacingTimerExpiry o).sound h ht
    | lineStateChange l shows => exact (keepsIntake_lineStateChange l shows).sound h ht
    | connectDetection l => exact (keepsIntake_connectDetection l).sound h ht
    | disconnectDetection l => exact (keepsIntake_disconnectDetection l).sound h ht
    | portResetEnd l b => exact (keepsIntake_portResetEnd l b).sound h ht
    | enumerationTransferDone l r => exact (keepsIntake_enumerationTransferDone l r).sound h ht
    | attachRetryExpiry l => exact (keepsIntake_attachRetryExpiry l).sound h ht
    | identityTransactionDone l r => exact (keepsIntake_identityTransactionDone l r).sound h ht
    | identityReadTimeout l => exact (keepsIntake_identityReadTimeout l).sound h ht
    | attachTimerExpiry l => exact (keepsIntake_attachTimerExpiry l).sound h ht
    | sendStart l => exact (keepsIntake_sendStart l).sound h ht
    | outTransactionDone l r => exact (keepsIntake_outTransactionDone l r).sound h ht
    | sendTimerExpiry l => exact (keepsIntake_sendTimerExpiry l).sound h ht
    | retryWaitEnd l => exact (keepsIntake_retryWaitEnd l).sound h ht
    | stallClearingDone l r => exact (keepsIntake_stallClearingDone l r).sound h ht
    | stallClearingRetry l => exact (keepsIntake_stallClearingRetry l).sound h ht
    | pollIssue l => exact (keepsIntake_pollIssue l).sound h ht
    | inTransactionDone l r => exact (keepsIntake_inTransactionDone l r).sound h ht
    | pollNakTimeout l => exact (keepsIntake_pollNakTimeout l).sound h ht
    | pollWaitEnd l => exact (keepsIntake_pollWaitEnd l).sound h ht
    | packTimerExpiry l => exact (keepsIntake_packTimerExpiry l).sound h ht
    | sampleEvent l v => exact (keepsIntake_sampleEvent l v).sound h ht
    | startInstant l => exact (keepsIntake_startInstant l).sound h ht
    | stepEnd l => exact (keepsIntake_stepEnd l).sound h ht
    | releaseGapEnd l => exact (keepsIntake_releaseGapEnd l).sound h ht
    | retractEnd l => exact (keepsIntake_retractEnd l).sound h ht
    | nestInputChange l b => exact (keepsIntake_nestInputChange l b).sound h ht
    | nestQualificationEnd l => exact (keepsIntake_nestQualificationEnd l).sound h ht
    | activityTimerExpiry l => exact (keepsIntake_activityTimerExpiry l).sound h ht
    | hardResetRelease => exact execHardResetRelease_sound h ht
    | outDataPacket bytes => exact execOutDataPacket_sound h ht
    | _ => cases hq

/-- Settles O60: the front command keeps the invariant, and so does an idle step. -/
theorem replyStoreStaysSound : Obligations.ReplyStoreStaysSound := by
  intro s t h ht
  unfold step at ht
  split at ht
  · obtain rfl := Host.Outcome.next.inj ht
    unfold State.idle
    split
    · exact h
    · exact State.repliesSound_of_intake h (by simp) (by simp)
  · next c rest _ => exact exec_repliesSound c (s := { s with pending := rest }) h ht

end Sys2Proof.Machine
end

section
/-! The route of a request through the byte stream (R5, R10) and the checks of R9, for all requests at once. -/

namespace Sys2Proof.Machine

/-! ### From the byte stream -/

theorem State.mayBegin_eq (s : State) : s.mayBegin = decide (0 < s.freeEntries ∧ s.resetPending = false) := by
  rw [State.mayBegin, Bool.decide_and, Bool.decide_eq_false]

/-- A request whose last byte stands next is handled as one that arrives alone, and reception goes on behind it. -/
theorem arrive_of_verdict {s : State} {rq : Request} {handle : Request → State → State} (hr : OneReply (handle rq))
    (hv : s.verdict = some (.request rq)) : arrive rq handle s = ((handle rq s).setRx s.rx.endFrame).pump := by
  simp only [arrive, State.takeRequest, if_pos hv, hr.setRx]

/-- Settles O5: handling commutes with what reception holds. -/
theorem requestFromTheByteStream : Obligations.RequestFromTheByteStream := by
  refine ⟨fun s x rest h => ?_, fun i rq s hi hb hp hsu hf hrp hv => ?_⟩
  · rw [← State.mayBegin_eq] at h
    simp only [State.pump, h]
    rfl
  · obtain ⟨handle, hd, he⟩ := exec_request hi
    have hh : (s.setRx Rx.idle).hears := ⟨hp, hsu, rfl, hf, hrp⟩
    refine ⟨_, he _, ?_⟩
    rw [he, arrive_of_verdict hd.oneReply hv, arrive_of_hears hh rq hb handle (hd.oneReply.rx _), hd.oneReply.setRx,
      State.setRx_setRx]
    rfl

/-! ### The first check: form -/

/-- R9, step 1: an ill-formed request is refused with the check that it fails. -/
theorem Dispatched.handle_of_fault {rq : Request} {handle : Request → State → State} (h : Dispatched rq handle) {c : Cond}
    (hc : rq.formFault = some c) (s : State) : handle rq s = s.refuseForm c rq := by
  unfold Request.formFault at hc
  cases h with
  | unknown hn =>
    rw [hn] at hc
    cases hc
    rfl
  | device hr hd hok _ =>
    simp only [hr, RequestRow.fitsLane, hd, if_true, ← hok] at hc
    unfold deviceRequest
    have hl : rq.lane.toNat ≠ 255 ↔ (rq.lane == 255) = false := by
      rw [beq_eq_false_iff_ne, ne_eq, ne_eq, ← BitVec.toNat_inj]; rfl
    simp only [hl]
    split_ifs at hc ⊢ <;> cases hc <;> rfl
  | lane hr hd _ _ hok _ =>
    unfold laneRequest
    by_cases hl : rq.lane.toNat < 24
    · simp [hr, RequestRow.fitsLane, hd, ← hok, hl] at hc
      obtain ⟨ho, rfl⟩ := hc
      simp only [dif_pos hl, ho, if_true]
    · simp [hr, RequestRow.fitsLane, hd, hl] at hc
      simp only [dif_neg hl, hc]

/-- The three checks of form, with the short sense of each. -/
theorem Request.shortSense_of_fault {rq : Request} {c : Cond} (h : rq.formFault = some c) :
    (c = .unknownRequest ∧ shortSense c = [3, 1, 0xFF, 0xFF]) ∨ (c = .badLane ∧ shortSense c = [3, 2, 0xFF, 0xFF]) ∨
      (c = .badLength ∧ shortSense c = [3, 3, 0xFF, 0xFF]) := by
  unfold Request.formFault at h
  split at h
  · cases h; exact .inl ⟨rfl, rfl⟩
  · split_ifs at h
    · cases h; exact .inr (.inl ⟨rfl, rfl⟩)
    · cases h; exact .inr (.inr ⟨rfl, rfl⟩)

/-- A request that reaches an OUT side that hears is handled, and that is all. -/
theorem exec_of_hears {i : Instr} {rq : Request} {s : State} (hi : requestOf i = some rq) (hs : s.hears)
    (hb : rq.body.length ≤ 4096) : ∃ handle, Dispatched rq handle ∧ exec i s = .next (handle rq s) := by
  obtain ⟨handle, hd, he⟩ := exec_request hi
  exact ⟨handle, hd, by rw [he, arrive_of_hears hs rq hb handle (hd.oneReply.rx s)]⟩

/-- Settles O7: the first check failed decides, and its short sense is its key, code and residual. -/
theorem illFormedRequestsRefused : Obligations.IllFormedRequestsRefused := by
  refine ⟨fun s c code tag o l => ⟨rfl, rfl⟩, fun i rq c s hi hs hb hc => ?_⟩
  obtain ⟨handle, hd, he⟩ := exec_of_hears hi hs hb
  exact ⟨shortSense c, Request.shortSense_of_fault hc, by rw [he, hd.handle_of_fault hc]; rfl⟩

/-! ### Attention and ownership -/

/-- No row allows a body that R5 would discard. -/
theorem requestRow_maxBody : ∀ code : Byte, (requestRow code).all (fun r => decide (r.maxBody ≤ 4096)) = true := by decide

/-- A request that passes the checks of form. -/
theorem Request.formed {rq : Request} {r : RequestRow} (h : rq.formFault = none) (hr : requestRow rq.code = some r) :
    r.fitsLane rq.lane = true ∧ r.fitsLength rq.body.length = true ∧ rq.body.length ≤ 4096 := by
  have hm := requestRow_maxBody rq.code
  simp only [Request.formFault, hr, Option.all_some, decide_eq_true_eq] at h hm
  split_ifs at h with hl hn
  rw [Bool.not_eq_false] at hl hn
  refine ⟨hl, hn, ?_⟩
  simp only [RequestRow.fitsLength, Bool.and_eq_true, decide_eq_true_eq] at hn
  exact hn.1.2.trans hm

/-- R9, steps 2 and 3: how an acting lane-scope request that passes the checks of form is handled. -/
theorem exec_laneRequest {i : Instr} {rq : Request} {r : RequestRow} {l : LaneId} {s : State} (hi : requestOf i = some rq)
    (hs : s.hears) (hf : rq.formFault = none) (hr : requestRow rq.code = some r) (hd : r.device = false)
    (ha : r.acting = true) (hl : rq.lane = laneByte l) : ∃ handle : LaneId → Request → State → State,
    exec i s = .next (
      if (s.lane l).sense[rq.originator].causes ≠ 0 then s.refuseAttention l rq
      else if r.claims = false ∧ (s.lane l).mayAct rq.originator = false then s.answer rq .conflict (conflictSense none)
      else handle l rq s) := by
  obtain ⟨-, hlen, hb⟩ := Request.formed hf hr
  obtain ⟨handle, hdis, he⟩ := exec_of_hears hi hs hb
  obtain ⟨o, lane, code, tag, body⟩ := rq
  simp only at hl hr hlen
  subst hl
  cases hdis with
  | unknown hn => exact absurd (hn.symm.trans hr) (by simp)
  | device hr2 hd2 _ _ =>
    obtain rfl := Option.some.inj (hr2.symm.trans hr)
    exact absurd (hd2.symm.trans hd) (by simp)
  | @lane row access ok handle hr2 _ hat how hok _ =>
    obtain rfl := Option.some.inj (hr2.symm.trans hr)
    refine ⟨handle, ?_⟩
    rw [he, laneRequest_formed access ok handle o l code tag body s (by rw [hok, hlen])]
    simp only [hat, how, ha, Bool.true_and, Bool.not_eq_true', true_and]

/-- Settles O8: the attention step comes before the ownership step and the block's own handling. -/
theorem attentionRefusesAndClears : Obligations.AttentionRefusesAndClears := by
  intro i rq r l s hi hs hf hr hd ha hl hc
  obtain ⟨handle, he⟩ := exec_laneRequest hi hs hf hr hd ha hl
  rw [he, if_pos hc]
  rfl

theorem LaneState.mayAct_eq_false {L : LaneState} {c : Claim} {o : Originator} (hc : L.claim = some c)
    (ho : c.beneficiary ≠ o) : L.mayAct o = false := by
  simp [LaneState.mayAct, LaneState.isHeld, LaneState.benefits, hc, ho]

/-- Settles O9: with no attention pending, the ownership step decides. -/
theorem conflictOnAnothersLane : Obligations.ConflictOnAnothersLane := by
  intro i rq r l c s hi hs hf hr hd ha hcl hl hz hc ho
  obtain ⟨handle, he⟩ := exec_laneRequest hi hs hf hr hd ha hl
  rw [he, if_neg (not_not.2 hz), if_pos ⟨hcl, LaneState.mayAct_eq_false hc ho⟩]
  rfl

end Sys2Proof.Machine
end

section
/-! Reception of whole frames (R3 to R5): every frame of an allowed length is taken as far as its last byte, and that
byte's judgement is read off the frame's fields. -/

namespace Sys2Proof.Machine

/-! ### Fields -/

/-- A two-byte field is read back as the number that it was made of. -/
theorem le16_toNat (n : Nat) (h : n < 65536) :
    (BitVec.ofNat 8 n).toNat + 256 * (BitVec.ofNat 8 (n / 256)).toNat = n := by
  simp only [BitVec.toNat_ofNat]
  omega

/-- Bytes 0 to 9 of a station frame: the header, which announces `n` body bytes (section 1.2). -/
def frameTop (kind o lane code tag status : Byte) (n : Nat) : List Byte :=
  [0x5A, 0xC3, kind, o, lane, code, tag, status] ++ le16 n

theorem frameHead_eq (kind o lane code tag status : Byte) (body : List Byte) :
    frameHead kind o lane code tag status body = frameTop kind o lane code tag status body.length ++ body := rfl

theorem frameHead_length (kind o lane code tag status : Byte) (body : List Byte) :
    (frameHead kind o lane code tag status body).length = 10 + body.length := by
  rw [frameHead_eq, List.length_append]; rfl

theorem announced_frameTop (kind o lane code tag status : Byte) (n : Nat) (h : n ≤ 4096) :
    announced (frameTop kind o lane code tag status n) = n := le16_toNat n (by omega)

theorem announced_frameHead (kind o lane code tag status : Byte) (body more : List Byte) (h : body.length ≤ 4096) :
    announced (frameHead kind o lane code tag status body ++ more) = body.length := by
  rw [frameHead_eq, List.append_assoc, announced_append _ _ le_rfl, announced_frameTop _ _ _ _ _ _ _ h]

/-! ### Judgement -/

/-- R5: the judgement of a frame, read off its fields. -/
theorem judgeFrame_frame (kind o lane code tag status lo hi : Byte) (body : List Byte) (h : body.length ≤ 4096) :
    judgeFrame (frameHead kind o lane code tag status body ++ [lo, hi]) =
      if (crc16 (frameHead kind o lane code tag status body)).toNat ≠ lo.toNat + 256 * hi.toNat then .discard
      else if kind.toNat ≠ 1 then .discard
      else if ho : o.toNat < 8 then
        .request { originator := ⟨o.toNat, ho⟩, lane := lane, code := code, tag := tag, body := body }
      else .discard := by
  have hn := announced_frameHead kind o lane code tag status body [lo, hi] h
  have hl := frameHead_length kind o lane code tag status body
  have htake : (frameHead kind o lane code tag status body ++ [lo, hi]).take (10 + body.length) =
      frameHead kind o lane code tag status body := by rw [← hl, List.take_left]
  have hcrc : u16At (frameHead kind o lane code tag status body ++ [lo, hi]) (10 + body.length) =
      lo.toNat + 256 * hi.toNat := by
    simp only [u16At, byteAt, ← hl]
    rw [List.getD_append_right _ _ _ _ le_rfl, List.getD_append_right _ _ _ _ (by omega)]
    simp
  have hbody : ((frameHead kind o lane code tag status body ++ [lo, hi]).drop 10).take body.length = body := by
    simp [frameHead, le16]
  unfold judgeFrame
  simp only [hn, htake, hcrc, hbody]
  rfl

/-! ### Reception -/

/-- R4: from HUNT, the first nine bytes of a header are taken. -/
theorem Rx.run_nine (m : Bool) (x : Rx) (h r : List Byte) (hh : h.length = 7) (hp : x.phase = .hunt) (hg : x.got = [])
    (hb : (x.begun || m) = true) :
    Rx.run m x (0x5A :: 0xC3 :: (h ++ r)) = Rx.run m ⟨true, .header, 0x5A :: 0xC3 :: h, x.buf⟩ r := by
  rw [Rx.run_marker m x _ hp hg hb, Rx.run_header m x.buf r h [0x5A, 0xC3] (by rw [hh]; rfl)]
  rfl

/-- R4, R5: byte 9 ends a header that announces no more than 4096 bytes. -/
theorem Rx.run_header_end (m : Bool) (buf r got : List Byte) (b : Byte) (hg : got.length = 9)
    (hn : announced (got ++ [b]) ≤ 4096) : Rx.run m ⟨true, .header, got, buf⟩ (b :: r) =
      Rx.run m ⟨true, if announced (got ++ [b]) = 0 then .crc else .body, got ++ [b], buf⟩ r := by
  have hj : (⟨true, .header, got, buf⟩ : Rx).judges b = none := if_neg fun h => absurd h.2 (Nat.not_lt.2 hn)
  rw [Rx.run_take m _ _ _ rfl hj]
  simp [Rx.takeByte, hg]

/-- R4, R5: from HUNT, a frame of an allowed length is taken as far as its last byte, which is its judgement. -/
theorem Rx.run_frame (m : Bool) (x : Rx) (kind o lane code tag status lo hi : Byte) (body r : List Byte)
    (h : body.length ≤ 4096) (hp : x.phase = .hunt) (hg : x.got = []) (hb : (x.begun || m) = true) :
    Rx.run m x (frameHead kind o lane code tag status body ++ lo :: hi :: r) =
      (⟨true, .crc, frameHead kind o lane code tag status body ++ [lo], x.buf⟩, hi :: r) ∧
    (⟨true, .crc, frameHead kind o lane code tag status body ++ [lo], x.buf⟩ : Rx).judges hi =
      some (judgeFrame (frameHead kind o lane code tag status body ++ [lo, hi])) := by
  have htop := announced_frameTop kind o lane code tag status body.length h
  have hhead := announced_frameHead kind o lane code tag status body [] h
  have hcrc := Rx.run_crc m x.buf lo hi r (frameHead kind o lane code tag status body)
    (by rw [frameHead_length, ← hhead, List.append_nil])
  rw [List.append_assoc] at hcrc
  refine ⟨?_, hcrc.2⟩
  rw [← hcrc.1]
  calc Rx.run m x (frameHead kind o lane code tag status body ++ lo :: hi :: r)
      = Rx.run m ⟨true, if body.length = 0 then .crc else .body, frameTop kind o lane code tag status body.length, x.buf⟩
          (body ++ lo :: hi :: r) := by
        rw [frameHead_eq, List.append_assoc]
        refine (Rx.run_nine m x [kind, o, lane, code, tag, status, BitVec.ofNat 8 body.length]
          (BitVec.ofNat 8 (body.length / 256) :: (body ++ lo :: hi :: r)) rfl hp hg hb).trans ?_
        rw [Rx.run_header_end m x.buf _ _ _ rfl (htop.trans_le h)]
        simp only [List.cons_append, List.nil_append]
        change Rx.run m ⟨true, if announced (frameTop kind o lane code tag status body.length) = 0 then .crc else .body,
          _, _⟩ _ = _
        rw [htop]
        rfl
    _ = Rx.run m ⟨true, .crc, frameHead kind o lane code tag status body, x.buf⟩ (lo :: hi :: r) := by
        by_cases hz : body = []
        · subst hz; rfl
        · rw [if_neg (by simpa using hz), Rx.run_body m x.buf _ body _ le_rfl hz (by rw [htop]; rfl)]
          rfl

/-- R4, R5: from HUNT, a header that announces more than 4096 bytes is judged at byte 9. -/
theorem Rx.run_overlong (m : Bool) (x : Rx) (h r : List Byte) (lo hi : Byte) (hh : h.length = 6)
    (hn : 4096 < lo.toNat + 256 * hi.toNat) (hp : x.phase = .hunt) (hg : x.got = []) (hb : (x.begun || m) = true) :
    Rx.run m x (0x5A :: 0xC3 :: (h ++ lo :: hi :: r)) = (⟨true, .header, 0x5A :: 0xC3 :: (h ++ [lo]), x.buf⟩, hi :: r) ∧
    (⟨true, .header, 0x5A :: 0xC3 :: (h ++ [lo]), x.buf⟩ : Rx).judges hi = some .discard := by
  have ha : announced (0x5A :: 0xC3 :: (h ++ [lo]) ++ [hi]) = lo.toNat + 256 * hi.toNat := by
    match h, hh with
    | [_, _, _, _, _, _], _ => rfl
  have hj : (⟨true, .header, 0x5A :: 0xC3 :: (h ++ [lo]), x.buf⟩ : Rx).judges hi = some .discard :=
    if_pos ⟨by simp [hh], by rw [ha]; exact hn⟩
  refine ⟨?_, hj⟩
  have hr := Rx.run_nine m x (h ++ [lo]) (hi :: r) (by simp [hh]) hp hg hb
  rw [List.append_assoc] at hr
  refine hr.trans ?_
  rw [Rx.run, if_pos (by rw [hj]; simp)]

/-! ### Requests and discards -/

theorem originatorByte_toNat (o : Originator) : (originatorByte o).toNat = o.val := by
  have := o.isLt
  simp only [originatorByte, BitVec.toNat_ofNat]
  omega

theorem stationFrame_eq (kind o lane code tag status : Byte) (body : List Byte) :
    ∃ lo hi : Byte, lo.toNat + 256 * hi.toNat = (crc16 (frameHead kind o lane code tag status body)).toNat ∧
      stationFrame kind o lane code tag status body = frameHead kind o lane code tag status body ++ [lo, hi] :=
  ⟨_, _, le16_toNat _ (crc16 _).isLt, rfl⟩

/-- Settles O3. -/
theorem requestFrameIsReceived : Obligations.RequestFrameIsReceived := by
  rintro ⟨o, lane, code, tag, body⟩ rest x m h hp hg hb
  obtain ⟨lo, hi, hc, hf⟩ := stationFrame_eq 0x01 (originatorByte o) lane code tag 0x00 body
  obtain ⟨hrun, hj⟩ := Rx.run_frame m x 0x01 (originatorByte o) lane code tag 0x00 lo hi body rest h hp hg hb
  refine ⟨_, hi, ?_, ?_, hj.trans ?_⟩
  · exact hf.trans (by simp)
  · rw [requestFrame, hf, List.append_assoc]
    exact hrun
  · rw [judgeFrame_frame _ _ _ _ _ _ _ _ _ h, if_neg (not_not.2 hc.symm), if_neg (by decide)]
    simp only [originatorByte_toNat, o.isLt, dif_pos]

/-- A frame of an allowed length whose judgement is discard. -/
theorem discardsFrame_of_judge (kind o lane code tag status lo hi : Byte) (body : List Byte) (h : body.length ≤ 4096)
    (hj : judgeFrame (frameHead kind o lane code tag status body ++ [lo, hi]) = .discard) :
    discardsFrame (frameHead kind o lane code tag status body ++ [lo, hi]) := by
  intro rest x m hp hg hb
  obtain ⟨hrun, hjudge⟩ := Rx.run_frame m x kind o lane code tag status lo hi body rest h hp hg hb
  refine ⟨.crc, _, hi, by simp, ?_, hjudge.trans (by rw [hj])⟩
  rw [List.append_assoc]
  exact hrun

/-- R5: a wrong CRC, a wrong kind, or no originator is a discard. -/
theorem judgeFrame_discard (kind o lane code tag status lo hi : Byte) (body : List Byte) (h : body.length ≤ 4096)
    (hf : lo.toNat + 256 * hi.toNat ≠ (crc16 (frameHead kind o lane code tag status body)).toNat ∨ kind ≠ 0x01 ∨
      7 < o.toNat) : judgeFrame (frameHead kind o lane code tag status body ++ [lo, hi]) = .discard := by
  rw [judgeFrame_frame _ _ _ _ _ _ _ _ _ h]
  split_ifs with hc hk ho
  · rfl
  · rfl
  · have hk1 : kind = 0x01 := BitVec.eq_of_toNat_eq (by simpa using hk)
    rcases hf with hf | hf | hf
    · exact absurd (not_not.1 hc).symm hf
    · exact absurd hk1 hf
    · omega
  · rfl

/-- R5: a discarded frame that arrives alone leaves the state as it was. -/
theorem exec_frameDiscarded_alone {frame : List Byte} (hd : discardsFrame frame) {s : State} (hs : s.hears) :
    exec (.frameDiscarded frame) s = .next s := by
  have hm := hs.mayBegin
  obtain ⟨hp, hsu, hx, -, -⟩ := hs
  obtain ⟨phase, taken, last, hf, hrun, hj⟩ := hd [] Rx.idle true rfl rfl rfl
  rw [List.append_nil] at hrun
  have hne : frame.isEmpty = false := by rw [hf]; simp
  have hpump : (s.setRx (s.rx.withBuf frame)).pump = s.setRx ⟨true, phase, taken, [last]⟩ := by
    simp only [State.pump, State.setRx_mayBegin, hm, State.setRx_rx, hx, Rx.withBuf_withBuf, Rx.withBuf_buf]
    change (s.setRx _).setRx ((Rx.run true Rx.idle frame).1.withBuf (Rx.run true Rx.idle frame).2) = _
    rw [hrun]
    rfl
  have hv : (s.setRx ⟨true, phase, taken, [last]⟩).verdict = some .discard := hj
  have hpipes : (s.pipesRun && s.rx.buf.isEmpty) = true := by simp [State.pipesRun, hp, hsu, hx, Rx.idle]
  simp only [exec, execFrameDiscarded, hne, Bool.false_eq_true, if_false, hpipes, if_true, hpump, hv]
  congr 1
  have hidle : (s.setRx ⟨true, phase, taken, [last]⟩).setRx (Rx.endFrame ⟨true, phase, taken, [last]⟩) = s := by
    rw [State.setRx_setRx]
    exact (congrArg s.setRx hx.symm).trans s.setRx_self
  simp only [State.setRx_rx, hidle, State.pump_of_idle s hx]
  simp

/-- Settles O6: each failed check is a discard, and a discard puts reception back into HUNT. -/
theorem discardedFrameLeavesNoTrace : Obligations.DiscardedFrameLeavesNoTrace := by
  refine ⟨fun s hv => ?_, fun frame hf => ?_⟩
  · simp only [exec, execFrameDiscarded, List.isEmpty_nil, if_true, hv, Bool.true_or, and_self]
    rfl
  · have hd : discardsFrame frame := by
      rcases hf with ⟨kind, o, lane, code, tag, status, body, hb, hk, rfl⟩ |
        ⟨kind, o, lane, code, tag, status, lo, hi, body, hb, hc, rfl⟩ | ⟨h, lo, hi, hh, hn, rfl⟩
      · obtain ⟨lo, hi, -, hs⟩ := stationFrame_eq kind o lane code tag status body
        rw [hs]
        exact discardsFrame_of_judge _ _ _ _ _ _ _ _ _ hb (judgeFrame_discard _ _ _ _ _ _ _ _ _ hb (.inr hk))
      · exact discardsFrame_of_judge _ _ _ _ _ _ _ _ _ hb (judgeFrame_discard _ _ _ _ _ _ _ _ _ hb (.inl hc))
      · intro rest x m hp hg hb
        obtain ⟨hrun, hj⟩ := Rx.run_overlong m x h rest lo hi hh hn hp hg hb
        refine ⟨.header, _, hi, by simp, ?_, hj⟩
        simpa using hrun
    exact ⟨hd, fun s hs => exec_frameDiscarded_alone hd hs⟩

end Sys2Proof.Machine
end

section
/-! The station pipes (R2 to R4, R6, R22): what the OUT pipe takes, NAKs and holds, the CRC, and the bytes and data
packets of the frames that the part builds. -/

namespace Sys2Proof.Machine

/-! ### The OUT pipe -/

/-- R4: bytes that are all taken may come with those that follow, or apart. -/
theorem Rx.run_append (m : Bool) (a b : List Byte) : ∀ x y : Rx, Rx.run m x a = (y, []) →
    Rx.run m x (a ++ b) = Rx.run m y b := by
  induction a with
  | nil =>
    intro x y h
    cases h
    rfl
  | cons c a ih =>
    intro x y h
    rw [List.cons_append]
    rw [Rx.run] at h ⊢
    split at h
    · cases h
    · next hc => rw [if_neg hc]; exact ih _ _ h

/-- R4, R6: a packet that is taken is received as far as the next judgement. -/
theorem exec_outDataPacket (s : State) (bytes : List Byte) (hp : s.port = .configured) (hs : s.suspended = false)
    (hb : s.rx.buf = []) (hl : bytes.length ≤ 512) : exec (.outDataPacket bytes) s =
      .next (s.setRx ((Rx.run s.mayBegin s.rx bytes).1.withBuf (Rx.run s.mayBegin s.rx bytes).2)) := by
  have hx : s.rx.withBuf [] = s.rx := by rw [← hb, Rx.withBuf_self]
  have hc : (s.pipesRun && s.rx.buf.isEmpty && decide (bytes.length ≤ Config.pipePacket)) = true := by
    simp [State.pipesRun, hp, hs, hb, Config.pipePacket, hl]
  simp only [exec, execOutDataPacket, if_pos hc, State.pump, State.setRx_rx, State.setRx_mayBegin, State.setRx_setRx,
    Rx.withBuf_withBuf, Rx.withBuf_buf, hx]

/-- R6: the OUT side NAKs while bytes are held, and where the pipes do not run. -/
theorem exec_outDataPacket_nak (s : State) (bytes : List Byte)
    (h : s.rx.buf ≠ [] ∨ s.port ≠ .configured ∨ s.suspended = true) : exec (.outDataPacket bytes) s = .next s := by
  have hc : ¬ (s.pipesRun && s.rx.buf.isEmpty && decide (bytes.length ≤ Config.pipePacket)) = true := by
    simp only [State.pipesRun, Bool.and_eq_true, beq_iff_eq, Bool.not_eq_true', List.isEmpty_iff]
    rintro ⟨⟨⟨hp, hs⟩, hb⟩, -⟩
    rcases h with h | h | h
    · exact h hb
    · exact h hp
    · exact Bool.false_ne_true (hs.symm.trans h)
  simp only [exec, execOutDataPacket, if_neg hc]

/-- R6, R22: where no frame may be begun, no byte of one is taken. -/
theorem Rx.run_held (b : Byte) (bytes : List Byte) : Rx.run false Rx.idle (b :: bytes) = (Rx.idle, b :: bytes) := rfl

theorem State.mayBegin_eq_false {s : State} (h : s.freeEntries = 0 ∨ s.resetPending = true) : s.mayBegin = false := by
  rcases h with h | h <;> simp [State.mayBegin, h]

theorem exec_outResume (s : State) : exec .outResume s =
    .next (s.setRx ((Rx.run s.mayBegin (s.rx.withBuf []) s.rx.buf).1.withBuf
      (Rx.run s.mayBegin (s.rx.withBuf []) s.rx.buf).2)) := rfl

/-! ### Data packets, CRC and frames -/

/-- R2: the data packets of a transfer of `n` whole packets and a shorter last one. -/
theorem packetsOf_spec : ∀ (n : Nat) (bytes : List Byte), bytes.length / 512 = n →
    ∃ whole last, packetsOf n bytes = whole ++ [last] ∧ whole.flatten ++ last = bytes ∧
      (∀ p ∈ whole, p.length = 512) ∧ last.length < 512 := by
  intro n
  induction n with
  | zero => exact fun bytes h => ⟨[], bytes, rfl, rfl, by simp, by omega⟩
  | succ n ih =>
    intro bytes h
    obtain ⟨whole, last, hp, hf, hw, hl⟩ := ih (bytes.drop 512) (by rw [List.length_drop]; omega)
    refine ⟨bytes.take 512 :: whole, last, ?_, by simp [hf], ?_, hl⟩
    · simp only [packetsOf, Config.pipePacket, hp, List.cons_append]
    · intro p hm
      rcases List.mem_cons.1 hm with rfl | hm
      · rw [List.length_take]; omega
      · exact hw p hm

/-- R3: one bit of the CRC, with its most significant bit by its number. -/
theorem crcBit_eq : crcBit = fun c : BitVec 16 => if c.getLsbD 15 = true then (c <<< 1) ^^^ 0x1021 else c <<< 1 := by
  funext c
  rw [crcBit, BitVec.msb_eq_getLsbD_last]
  rfl

theorem crc16_snoc (bytes : List Byte) (b : Byte) :
    crc16 (bytes ++ [b]) = Nat.iterate crcBit 8 (crc16 bytes ^^^ (b.zeroExtend 16 <<< 8)) := by
  rw [crc16, List.foldl_append]
  rfl

theorem framed_stationFrame (kind o lane code tag status : Byte) (body : List Byte) :
    framed (frameHead kind o lane code tag status body) (stationFrame kind o lane code tag status body) := by
  obtain ⟨lo, hi, hc, hs⟩ := stationFrame_eq kind o lane code tag status body
  exact ⟨lo, hi, hs, hc⟩

/-- Section 1.2: the flags byte of a packet record, bit by bit. -/
theorem recordFlags_spec (p : PacketRecord) : (recordFlags p).getLsbD 0 = p.damaged ∧
    (recordFlags p).getLsbD 1 = p.urgent ∧ (recordFlags p).getLsbD 2 = p.firstInEpoch ∧ (recordFlags p).toNat < 8 := by
  have h : ∀ d u f : Bool, (BitVec.ofNat 8 (d.toNat + 2 * u.toNat + 4 * f.toNat)).getLsbD 0 = d ∧
      (BitVec.ofNat 8 (d.toNat + 2 * u.toNat + 4 * f.toNat)).getLsbD 1 = u ∧
      (BitVec.ofNat 8 (d.toNat + 2 * u.toNat + 4 * f.toNat)).getLsbD 2 = f ∧
      (BitVec.ofNat 8 (d.toNat + 2 * u.toNat + 4 * f.toNat)).toNat < 8 := by decide
  exact h _ _ _

/-- Settles O4. -/
theorem stationPipesCarryBytes : Obligations.StationPipesCarryBytes := by
  refine ⟨⟨fun s bytes hp hs hb hl => ⟨_, _, rfl, exec_outDataPacket s bytes hp hs hb hl⟩, exec_outDataPacket_nak,
      fun m x y a b h => Rx.run_append m a b x y h⟩, fun s b bytes hp hs hl => ⟨fun hx hn => ?_, fun hx hf hr => ?_⟩,
    fun bytes => packetsOf_spec _ bytes rfl, ⟨rfl, fun bytes b => ?_⟩, fun r => ?_, fun o entries => ?_,
    fun o l records => ?_⟩
  · have hm := State.mayBegin_eq_false hn
    rw [exec_outDataPacket s (b :: bytes) hp hs (by rw [hx]; rfl) hl, exec_outResume, hm, hx, Rx.run_held, State.setRx_mayBegin, hm]
    exact ⟨rfl, rfl⟩
  · have hm : s.mayBegin = true := by simp [State.mayBegin, hf, hr]
    refine ⟨_, _, rfl, ?_⟩
    rw [exec_outResume, hm, hx]
    rfl
  · rw [crc16_snoc, crcBit_eq]
  · refine ⟨statusByte r.status, ?_, ?_, ?_, framed_stationFrame ..⟩ <;> intro h <;> rw [h] <;> rfl
  · exact ⟨_, rfl, framed_stationFrame ..⟩
  · exact ⟨recordFlags, _, recordFlags_spec, rfl, framed_stationFrame ..⟩

end Sys2Proof.Machine
end

section
/-! Steps, the station port, the passing of time, and the resets (R1, R20 to R25, R157). -/

namespace Sys2Proof.Machine

/-! ### Steps and the port -/

/-- Settles O1. -/
theorem stepRunsFrontCommand : Obligations.StepRunsFrontCommand :=
  ⟨fun c rest s h => by simp only [step, h], fun s h => by simp only [step, h, State.idle]⟩

/-- Settles O10. -/
theorem portEntries : Obligations.PortEntries := by
  refine fun s => ⟨fun hp hs => ?_, fun hp hr => ?_, fun hp => ?_, rfl, fun hp => ?_, fun hp => ?_⟩
  · simp only [exec, execSetConfiguration, if_pos (And.intro hp hs)]
  · simp only [exec, execVbusPresent, if_pos (And.intro hp hr)]
  · simp only [exec, execSuspend, if_neg hp]
  · simp only [exec, execBusReset, hp]
  · simp only [exec, execVbusLoss, hp]

/-! ### The station link reset -/

/-- R91, R92: records that join a queue start the pack timer of an empty one, and a lane that is ready is eligible. -/
theorem LaneState.recordsJoined_eq (before : List PacketRecord) (L : LaneState) (hq : L.upstream.queue ≠ []) :
    L.recordsJoined before = L.onUpstream fun u => { u with
      eligible := if packReady L.options u.queue = true then true else u.eligible
      packTimer := if packReady L.options u.queue = true then none
        else if before = [] then packStart L.options else u.packTimer } := by
  unfold LaneState.recordsJoined LaneState.evalEligible
  by_cases hb : before = [] <;> by_cases hp : packReady L.options L.upstream.queue = true <;>
    simp [hb, hp, hq, LaneState.onUpstream]

/-- R23, R91, R92: what records that return make of a lane's collector. -/
theorem LaneState.restarted_returned (records : List PacketRecord) (L : LaneState) :
    L.restarted records { L.returned records with
      sense := Vector.ofFn fun o => (L.sense[o]).addCause causeStationRestart } := by
  have hs : ∀ o : Originator, (Vector.ofFn fun o : Originator => (L.sense[o]).addCause causeStationRestart)[o] =
      { L.sense[o] with causes := L.sense[o].causes ||| 2 } := fun o => by simp [Sense.addCause, causeStationRestart]
  by_cases hr : records = []
  · subst hr
    exact ⟨rfl, hs, rfl, rfl, fun _ => rfl, fun h => absurd rfl h⟩
  · have hret : L.returned records = (L.onUpstream fun u => { u with queue := records ++ u.queue }).onUpstream fun u =>
        { u with
          eligible := if packReady L.options u.queue = true then true else u.eligible
          packTimer := if packReady L.options u.queue = true then none
            else if L.upstream.queue = [] then packStart L.options else u.packTimer } := by
      rw [LaneState.returned, if_neg hr]
      exact LaneState.recordsJoined_eq _ _ (by simp [hr])
    rw [hret]
    refine ⟨rfl, hs, rfl, rfl, fun h => absurd h hr, fun _ => ?_⟩
    simp only [LaneState.onUpstream]
    by_cases hp : packReady L.options (records ++ L.upstream.queue) = true
    · simp only [hp, if_true, and_self]
    · have ht : L.options.packTimer ≠ 0 := fun h => hp (by simp [packReady, h])
      simp only [hp, if_false, packStart, ht, and_self, Bool.false_eq_true]

theorem State.lane_stationLinkReset (s : State) (l : LaneId) : s.stationLinkReset.lane l =
    { (s.lane l).returned (recordsFor l s.transmitting ++ recordsFor l s.staged) with
      sense := Vector.ofFn fun o => ((s.lane l).sense[o]).addCause causeStationRestart } := by
  simp [State.stationLinkReset, State.lane, State.onLanes]

/-- R1, R23: a port that leaves CONFIGURED with no DEVICE_RESET pending. -/
theorem State.restarted_leaveConfigured (s : State) (vbus suspended : Bool) (p : PortState) (hr : s.resetPending = false) :
    ∃ t, ({ s with vbus := vbus, suspended := suspended } : State).leaveConfigured p = t ∧ t.port = p ∧ t.vbus = vbus ∧
      t.suspended = suspended ∧ s.restarted t := by
  refine ⟨_, if_neg (by simp [hr]), rfl, rfl, rfl, rfl, fun o => ?_, fun l => ?_⟩
  · simp [State.stationLinkReset, State.orig]
  · rw [State.lane_stationLinkReset]
    exact LaneState.restarted_returned _ _

/-! The three ways out of CONFIGURED (R1). -/

theorem exec_deconfigure (s : State) (hp : s.port = .configured) (hs : s.suspended = false) :
    exec .deconfigure s = .next (s.leaveConfigured .unconfigured) := by
  simp only [exec, execDeconfigure, if_pos (And.intro hp hs)]
theorem exec_busReset (s : State) (hp : s.port = .configured) :
    exec .busReset s = .next (({ s with suspended := false } : State).leaveConfigured .unconfigured) := by
  cases s
  simp only at hp
  subst hp
  rfl
theorem exec_vbusLoss (s : State) (hp : s.port = .configured) :
    exec .vbusLoss s = .next (({ s with vbus := false, suspended := false } : State).leaveConfigured .detached) := by
  cases s
  simp only at hp
  subst hp
  rfl

/-- Settles O11: with no DEVICE_RESET pending, each way out of CONFIGURED is the station link reset. -/
theorem leavingConfiguredRestartsLink : Obligations.LeavingConfiguredRestartsLink := by
  refine fun s hp hr => ⟨fun hs => ?_, ?_, ?_⟩
  · obtain ⟨t, rfl, h⟩ := s.restarted_leaveConfigured s.vbus s.suspended .unconfigured hr
    exact ⟨_, exec_deconfigure s hp hs, hs ▸ h⟩
  · obtain ⟨t, rfl, h⟩ := s.restarted_leaveConfigured s.vbus false .unconfigured hr
    exact ⟨_, exec_busReset s hp, h⟩
  · obtain ⟨t, rfl, h⟩ := s.restarted_leaveConfigured false false .detached hr
    exact ⟨_, exec_vbusLoss s hp, h⟩

/-! ### The device reset -/

theorem LaneState.fresh_afterReset (line raw running : Bool) : (LaneState.afterReset line raw running).fresh :=
  ⟨⟨rfl, rfl, rfl, rfl, rfl, rfl, rfl, rfl, rfl, rfl, rfl, rfl, rfl, rfl⟩, rfl, ⟨rfl, rfl⟩, rfl, ⟨rfl, rfl, rfl⟩,
    fun o => by simp [LaneState.afterReset, Sense.afterReset],
    ⟨rfl, rfl, rfl, rfl, rfl, rfl, rfl, rfl, rfl, rfl, rfl, rfl⟩, rfl, rfl, rfl, rfl, rfl⟩

theorem State.fresh_deviceReset (s : State) (running : Bool) : (s.deviceReset running).fresh := by
  refine ⟨⟨rfl, rfl, rfl, rfl, rfl, rfl, rfl⟩, fun o => ?_, ⟨rfl, rfl, rfl, rfl⟩, fun i => ?_, ⟨rfl, rfl, rfl⟩,
    fun o => ?_, fun l => ?_⟩
  · simp [State.deviceReset, State.reset, State.orig, OriginatorState.afterReset]
  · simp [State.deviceReset, State.reset]
  · simp [State.deviceReset, State.reset, Sense.empty]
  · rw [State.lane_deviceReset]
    exact LaneState.fresh_afterReset _ _ _

theorem State.pinsKept_deviceReset (s : State) (running : Bool) : s.pinsKept running (s.deviceReset running) := by
  intro l
  rw [State.lane_deviceReset]
  exact ⟨rfl, rfl, rfl, rfl, rfl⟩

/-- R22: a port that leaves CONFIGURED with a DEVICE_RESET pending. -/
theorem State.fresh_leaveConfigured (s : State) (vbus suspended : Bool) (p : PortState) (hr : s.resetPending = true) :
    ∃ t, ({ s with vbus := vbus, suspended := suspended } : State).leaveConfigured p = t ∧ t.fresh ∧ s.pinsKept true t ∧
      t.port = p :=
  ⟨_, if_pos hr, State.fresh_deviceReset _ true, State.pinsKept_deviceReset _ true, rfl⟩

/-- Settles O12. -/
theorem deviceResetWaitsForItsReply : Obligations.DeviceResetWaitsForItsReply := by
  refine ⟨fun s o tag hs => ?_, fun s r hp hs hr ht hc hg => ?_, fun s hp hr => ⟨fun hs => ?_, ?_, ?_⟩⟩
  · simp only [exec, execDeviceReset]
    rw [arrive_of_hears hs ⟨o, 255, 0x02, tag, []⟩ (by simp) _
      ((OneReply.deviceRequest oneReply_deviceReset (exactly 0) _).rx s), deviceRequest_formed _ _ _ _ _ _ _ rfl]
    rfl
  · refine ⟨State.deviceReset true { s with transmitting := s.staged, staged := none }, ?_, State.fresh_deviceReset _ true,
      State.pinsKept_deviceReset _ true, hp, rfl, rfl, rfl⟩
    have hpipes : s.pipesRun = true := by simp [State.pipesRun, hp, hs]
    simp only [exec, execInTransferDone, if_pos hpipes, ht, State.transferred, hr, hc, hg, and_self, if_true]
  · obtain ⟨t, rfl, h⟩ := s.fresh_leaveConfigured s.vbus s.suspended .unconfigured hr
    exact ⟨_, exec_deconfigure s hp hs, h⟩
  · obtain ⟨t, rfl, h⟩ := s.fresh_leaveConfigured s.vbus false .unconfigured hr
    exact ⟨_, exec_busReset s hp, h⟩
  · obtain ⟨t, rfl, h⟩ := s.fresh_leaveConfigured false false .detached hr
    exact ⟨_, exec_vbusLoss s hp, h⟩

/-- Settles O13. -/
theorem hardResetAndRelease : Obligations.HardResetAndRelease := by
  refine fun s => ⟨⟨_, rfl, State.fresh_deviceReset _ false, State.pinsKept_deviceReset _ false, rfl, rfl, rfl,
    fun l => rfl⟩, fun hr => ?_⟩
  refine ⟨({ s with hardReset := false, port := if s.vbus then .unconfigured else .detached } : State).deviceReset true,
    ?_, State.fresh_deviceReset _ true, State.pinsKept_deviceReset _ true, rfl, rfl, rfl⟩
  simp only [exec, execHardResetRelease, if_pos hr]

/-! ### The reset state -/

@[simp] theorem State.lane_reset (l : LaneId) : State.reset.lane l = LaneState.afterReset false false true := by
  simp [State.reset, State.lane]

theorem State.fresh_reset : State.reset.fresh := by
  refine ⟨⟨rfl, rfl, rfl, rfl, rfl, rfl, rfl⟩, fun o => ?_, ⟨rfl, rfl, rfl, rfl⟩, fun i => ?_, ⟨rfl, rfl, rfl⟩,
    fun o => ?_, fun l => ?_⟩
  · simp [State.reset, State.orig, OriginatorState.afterReset]
  · simp [State.reset]
  · simp [State.reset, Sense.empty]
  · rw [State.lane_reset]
    exact LaneState.fresh_afterReset _ _ _

theorem Sense.sound_unheld (causes : BitVec 8) : (⟨none, 0, causes⟩ : Sense).sound := ⟨fun _ => rfl, Nat.zero_le _⟩

/-- R49 to R54: a part in which nothing is stored has its counts at 0. -/
theorem State.cellsSound_reset : State.reset.cellsSound := by
  refine ⟨by decide, by decide, ?_, by decide, fun l => ?_, ?_⟩
  · simp only [State.lane_reset]
    rfl
  · rw [State.lane_reset]
    rfl
  · simp only [State.lane_reset]
    decide

theorem State.repliesSound_reset : State.reset.repliesSound := by
  have h : State.reset.reservedEntries = 0 := by
    rw [State.reservedEntries_eq_sum]
    exact Finset.sum_eq_zero fun l _ => by rw [State.lane_reset]; rfl
  rw [State.repliesSound, h]
  exact ⟨by decide, by decide, fun _ => rfl⟩

/-- Settles O54. -/
theorem resetIsSafe : Obligations.ResetIsSafe := by
  refine ⟨State.fresh_reset, ⟨fun l o => ?_, fun o => ?_⟩, fun l => ?_, fun l => ?_, fun l => ?_, State.cellsSound_reset,
    State.repliesSound_reset⟩
  · have h : ((State.reset.lane l).sense[o]) = ⟨none, 0, 1⟩ := by simp [LaneState.afterReset, Sense.afterReset]
    rw [h]
    exact Sense.sound_unheld 1
  · have h : State.reset.deviceSense[o] = ⟨none, 0, 0⟩ := by simp [State.reset, Sense.empty]
    rw [h]
    exact Sense.sound_unheld 0
  · rw [State.lane_reset]
    exact ⟨by decide, fun _ => ⟨rfl, rfl, rfl, rfl, rfl⟩⟩
  · rw [State.lane_reset]
    exact ⟨rfl, by decide, fun _ => by decide⟩
  · rw [State.lane_reset]
    exact ⟨by decide, by decide, by decide, by decide⟩

/-! ### Qualifications, timers and time -/

/-- R20: what the passing of time makes of a lane. -/
theorem LaneState.aged_pass (d : Nat) (L : LaneState) : L.aged d (L.pass d) := by
  refine ⟨_, _, _, _, rfl, ⟨fun h => ?_, fun left w h => ?_, fun left e w h => ?_, fun left w h => ?_,
    fun left p w h => ?_⟩, ⟨fun h => ?_, fun f left h => ?_, fun f left h => ?_⟩,
    ⟨fun p h => ?_, fun p h => ?_, fun left p h => ?_⟩, fun h => ?_, fun i left h => ?_, fun st left h => ?_,
    fun left h => ?_, fun left h => ?_⟩
  · cases hs : L.link.state with
    | attaching a => exact absurd hs (h a)
    | disabled | vacant | waiting | up | failed => rfl
  all_goals
    rw [h]
    rfl

/-- Settles O39. -/
theorem inputsQualifyAndTimersExpire : Obligations.InputsQualifyAndTimersExpire := by
  have he (u : Upstream) : (!u.queue.isEmpty || u.eligible) = if u.queue = [] then u.eligible else true := by
    cases u.queue <;> simp
  refine ⟨fun s l b => ⟨?_, ?_⟩, fun s l left => ⟨fun h => ?_, fun h => ?_⟩, fun s d => ⟨_, rfl, ?_, rfl, fun o => ?_,
    fun l => ?_⟩⟩
  · simp only [exec, execLineStateChange, Link.lineChange, LaneState.onLink, Bool.or_eq_true, Bool.not_eq_true', or_assoc,
      Config.connectQualUs]
  · simp only [exec, execNestInputChange, Nest.input, Bool.or_eq_true, beq_iff_eq, Config.nestQualUs]
  · simp only [exec, execPackTimerExpiry, h, he, LaneState.onUpstream]
  · simp only [exec, execActivityTimerExpiry, h]
  · simp [State.advance, BitVec.toNat_add]
  · simp [State.advance, State.orig, passTimer]
  · rw [State.lane_advance]
    exact LaneState.aged_pass d _

end Sys2Proof.Machine
end

section
/-! The IN arbiter, the events and the notices (R12 to R19), and the device-scope requests that report or set them (R15,
R19, R21). -/

namespace Sys2Proof.Machine

/-! ### Cyclic order (R13, R94) -/

theorem firstAfter_eq_some {n : Nat} [NeZero n] {p x : Fin n} {ok : Fin n → Bool} {good : Fin n → Prop}
    (hok : ∀ y, ok y = true ↔ good y) (h : NextAfter p good x) : firstAfter p ok = some x := by
  obtain ⟨k, hk, rfl, hg, hb⟩ := h
  have hf : (List.range n).find? (ok ∘ fun j => p + Fin.ofNat n (j + 1)) = some k := by
    rw [List.find?_range_eq_some]
    refine ⟨(hok _).2 hg, List.mem_range.2 hk, fun j hj => ?_⟩
    have hj' : ok (p + Fin.ofNat n (j + 1)) ≠ true := fun h => hb j hj ((hok _).1 h)
    simpa using hj'
  rw [firstAfter, List.find?_map, hf]
  rfl

theorem firstAfter_eq_none {n : Nat} [NeZero n] {p : Fin n} {ok : Fin n → Bool} {good : Fin n → Prop}
    (hok : ∀ y, ok y = true ↔ good y) (h : ∀ y, ¬ good y) : firstAfter p ok = none := by
  rw [firstAfter, List.find?_eq_none]
  exact fun y _ => fun hy => h y ((hok y).1 hy)

/-! ### Frames (R12 to R14, R18) -/

theorem State.pipesRun_of {s : State} (hp : s.port = .configured) (hs : s.suspended = false) : s.pipesRun = true := by
  simp [State.pipesRun, hp, hs]

/-- R12: a built frame goes where the spec says. -/
theorem State.placeFrame_eq (s : State) (f : Frame) : s.placeFrame f = s.withBuilt f := by
  unfold State.placeFrame State.withBuilt
  cases h : s.transmitting <;> simp

theorem noticeTo_eq_false (o : Originator) (f : Option Frame) : noticeTo o f = false ↔ ∀ es, f ≠ some (.notice o es) := by
  rcases f with _ | ⟨r⟩ | ⟨dest, es⟩ | ⟨dest, l, rs⟩ <;> simp [noticeTo]

theorem OriginatorState.entries_isEmpty (q : OriginatorState) :
    q.entries.isEmpty = false ↔ ∃ p : Fin 25, q.accumulator[p] ≠ none := by
  rw [← Bool.not_eq_true, List.isEmpty_iff, OriginatorState.entries, List.filterMap_eq_nil_iff]
  simp

/-- R13, R19. -/
theorem State.qualifies_iff (s : State) (o : Originator) : s.qualifies o = true ↔ s.wantsNotice o := by
  simp only [State.qualifies, State.wantsNotice, Bool.and_eq_true, Bool.not_eq_true', noticeTo_eq_false,
    OriginatorState.entries_isEmpty, Option.isNone_iff_eq_none, forall_and, and_assoc]

/-- R13: the frame of the first source that has content. -/
theorem State.buildFrame_reply {s : State} {r : Reply} {rest : List Reply} (h : s.ready = r :: rest) :
    s.buildFrame = some (.reply r, { s with ready := rest }) := by simp only [State.buildFrame, h]
theorem State.buildFrame_notice {s : State} {o : Originator} (h : s.ready = []) (ho : NextAfter s.served s.wantsNotice o) :
    s.buildFrame = some (s.buildNotice o) := by
  simp only [State.buildFrame, h, firstAfter_eq_some s.qualifies_iff ho]
theorem State.buildFrame_lane {s : State} (h : s.ready = []) (ho : ∀ o, ¬ s.wantsNotice o) :
    s.buildFrame = s.chooseLane.bind fun c => c.2.buildDataUp c.1 := by
  simp only [State.buildFrame, h, firstAfter_eq_none s.qualifies_iff ho]
  cases s.chooseLane <;> rfl

/-- R94: the choice of a lane changes no lane. -/
theorem State.lane_chooseLane {s t : State} {l : LaneId} (h : s.chooseLane = some (l, t)) (k : LaneId) :
    t.lane k = s.lane k := by
  unfold State.chooseLane at h
  dsimp only at h
  split at h
  · cases h; rfl
  · split_ifs at h <;> cases h <;> rfl
  · cases h; rfl
  · cases h

/-- R93: the DATA_UP frame of a HELD lane. -/
theorem State.buildDataUp_held {s : State} {l : LaneId} {c : Claim} (h : (s.lane l).claim = some c) : s.buildDataUp l =
    some (.dataUp c.beneficiary l (takeRecords 4096 (s.lane l).upstream.queue).1, s.onLane l fun L =>
      { L with
        upstream :=
          if (takeRecords 4096 L.upstream.queue).2 = [] then
            { L.upstream with queue := [], packTimer := none, eligible := false }
          else { L.upstream with queue := (takeRecords 4096 L.upstream.queue).2 } }) := by
  simp only [State.buildDataUp, h]
  rfl

/-- Settles O14. -/
theorem frameBuildServesSourcesInOrder : Obligations.FrameBuildServesSourcesInOrder := by
  intro s
  refine ⟨fun h => ?_, fun hp hs hf => ?_⟩
  · have hc : ¬ (s.pipesRun && s.slotFree) = true := by
      simp only [State.pipesRun, State.slotFree, Bool.and_eq_true, Bool.or_eq_true, beq_iff_eq, Bool.not_eq_true',
        Option.isNone_iff_eq_none]
      rintro ⟨⟨hp, hs⟩, hf⟩
      rcases h with h | h | ⟨h1, h2⟩
      · exact h hp
      · exact Bool.false_ne_true (hs.symm.trans h)
      · exact hf.elim h1 h2
    simp only [exec, execFrameBuild, if_neg hc]
  · have hc : (s.pipesRun && s.slotFree) = true := by
      rw [State.pipesRun_of hp hs, Bool.true_and]
      simpa [State.slotFree] using hf
    have hx (f : Frame) (t : State) (h : s.buildFrame = some (f, t)) : exec .frameBuild s = .next (t.withBuilt f) := by
      simp only [exec, execFrameBuild, if_pos hc, h, State.placeFrame_eq]
    refine ⟨fun r rest hr => hx _ _ (State.buildFrame_reply hr), fun hr o ho => hx _ _ (State.buildFrame_notice hr ho),
      fun hr ho l t c hl hcl => hx _ _ ?_, fun hr ho hl => ?_⟩
    · rw [State.buildFrame_lane hr ho, hl]
      have hk := State.lane_chooseLane hl l
      rw [← hk] at hcl ⊢
      exact State.buildDataUp_held hcl
    · have hn : s.buildFrame = none := by rw [State.buildFrame_lane hr ho, hl]; rfl
      simp only [exec, execFrameBuild, if_pos hc, hn]

/-- R57, R58, R59: what a release does, with flow hold and squeeze evaluated. -/
theorem State.releaseUp_eq (s : State) (n : Nat) (l : LaneId) : s.releaseUp n l = (s.onLane l fun L =>
    { L with
      occupancy := L.occupancy - n
      flowHeld := if L.occupancy - n ≤ L.options.low then false else L.flowHeld }).leaveSqueeze := by
  rw [State.releaseUp, State.squeezeAfterRelease_eq]
  congr 2
  funext L
  by_cases h : L.occupancy - n ≤ L.options.low <;> simp [LaneState.holdAfterRelease, h]

theorem exec_inTransferDone {s : State} {f : Frame} (hp : s.port = .configured) (hs : s.suspended = false)
    (h : s.transmitting = some f) :
    exec .inTransferDone s = .next (({ s with transmitting := s.staged, staged := none } : State).transferred f) := by
  simp only [exec, execInTransferDone, if_pos (State.pipesRun_of hp hs), h]

/-- Settles O17. -/
theorem inTransferDoneEffects : Obligations.InTransferDoneEffects := by
  refine ⟨fun s hp hs => ⟨fun r ht hr => ?_, fun o es ht => exec_inTransferDone hp hs ht, fun o l rs ht => ?_⟩,
    fun s o left h => ?_⟩
  · have hc : ¬ (s.resetPending = true ∧ r.code = 0x02 ∧ r.status = .good) := by
      rintro ⟨h1, h2, h3⟩
      rcases hr with h | h | h
      · exact Bool.false_ne_true (h.symm.trans h1)
      · exact h h2
      · exact h h3
    rw [exec_inTransferDone hp hs ht, State.transferred, if_neg hc]
  · rw [exec_inTransferDone hp hs ht, State.transferred, State.releaseUp_eq]
  · simp only [exec, execPacingTimerExpiry, h]

/-! ### Events (R16, R17) -/

theorem EventKind.set_eq (k : EventKind) : k.set = BitVec.ofNat 16 (2 ^ k.bit) := by cases k <;> rfl

/-- R15, R16: a kind is open where its bit of the mask is set. -/
theorem OriginatorState.isOpen_iff (q : OriginatorState) (k : EventKind) : q.isOpen k = true ↔ q.mask.getLsbD k.bit = true := by
  have hs : k.set = BitVec.twoPow 16 k.bit := rfl
  have hz : BitVec.twoPow 16 k.bit ≠ 0 := by cases k <;> decide
  rw [OriginatorState.isOpen, hs, BitVec.and_twoPow, bne_iff_ne]
  split
  · next h => exact iff_of_true hz h
  · next h => exact iff_of_false (fun h0 => h0 rfl) h

theorem gatherEntry_eq (k : EventKind) (now : Stamp) (e : Option NoticeEntry) : some (gatherEntry k now e) = gathered k now e := by
  cases e <;> simp only [gatherEntry, gathered, EventKind.set_eq]

/-- R17: an event is gathered under its place, and no other place changes. -/
theorem OriginatorState.gather_spec (q : OriginatorState) (p : Fin 25) (k : EventKind) (now : Stamp) (i : Fin 25) :
    (q.gather p k now).accumulator[i] = if i = p then gathered k now q.accumulator[i] else q.accumulator[i] := by
  by_cases h : i = p
  · subst h
    simp [OriginatorState.gather, gatherEntry_eq]
  · have hv : p.val ≠ i.val := fun e => h (Fin.ext e.symm)
    simp [OriginatorState.gather, h, hv]

theorem LaneState.concerns_iff (L : LaneState) (o : Originator) :
    L.concerns o = true ↔ ∃ c, L.claim = some c ∧ (c.holder = o ∨ c.beneficiary = o) := by
  cases h : L.claim <;> simp [LaneState.concerns, h]

/-- An originator after an event that may reach it. -/
theorem OriginatorState.gather_if (q : OriginatorState) (b : Bool) (reaches : Prop) [Decidable reaches] (hb : b = true ↔ reaches)
    (p : Fin 25) (k : EventKind) (now : Stamp) :
    ∃ a, (if b = true then q.gather p k now else q) = { q with accumulator := a } ∧
      ∀ i : Fin 25, a[i] = if reaches ∧ i = p then gathered k now q.accumulator[i] else q.accumulator[i] := by
  by_cases h : reaches
  · refine ⟨(q.gather p k now).accumulator, by rw [if_pos (hb.2 h)]; rfl, fun i => ?_⟩
    simp only [h, true_and, OriginatorState.gather_spec]
  · exact ⟨q.accumulator, by rw [if_neg (mt hb.1 h)], fun i => by simp only [h, false_and, if_false]⟩

/-- Settles O18. -/
theorem eventsReachAndGather : Obligations.EventsReachAndGather := by
  classical
  refine fun s k o => ⟨fun l => ?_, ?_⟩
  · have hr : s.laneEventReaches k l o = true ↔ (s.orig o).mask.getLsbD k.bit = true ∧
        ((s.orig o).watch = true ∨ ∃ c, (s.lane l).claim = some c ∧ (c.holder = o ∨ c.beneficiary = o)) := by
      rw [State.laneEventReaches, Bool.and_eq_true, Bool.or_eq_true, OriginatorState.isOpen_iff, LaneState.concerns_iff]
    obtain ⟨a, ha, hi⟩ := (s.orig o).gather_if _ _ hr (lanePlace l) k s.timebase
    refine ⟨a, ?_, fun p => ?_⟩
    · rw [State.offerLane, State.orig_onOriginators]
      exact ha
    · rw [hi]
      simp only [Fin.ext_iff, lanePlace, and_assoc]
  · obtain ⟨a, ha, hi⟩ := (s.orig o).gather_if _ _ ((s.orig o).isOpen_iff k) devicePlace k s.timebase
    refine ⟨a, ?_, fun p => ?_⟩
    · rw [State.offerDevice, State.orig_onOriginators]
      exact ha
    · rw [hi]
      simp only [Fin.ext_iff, devicePlace]
      rfl

/-! ### Device-scope requests (R10, R15, R19, R21) -/

/-- A device-scope request of an allowed length that reaches an OUT side that hears is handled by its block. -/
theorem arrive_deviceRequest {s : State} (hs : s.hears) {ok : Nat → Bool} {handle : Request → State → State}
    (hh : ∀ rq, OneReply (handle rq)) (o : Originator) (code tag : Byte) (body : List Byte) (hl : ok body.length = true)
    (hb : body.length ≤ 4096) : arrive ⟨o, 255, code, tag, body⟩ (deviceRequest ok handle) s =
      handle ⟨o, 255, code, tag, body⟩ s := by
  rw [arrive_of_hears hs _ hb _ ((OneReply.deviceRequest hh ok _).rx s), deviceRequest_formed _ _ _ _ _ _ _ hl]

theorem State.freeEntries_pred (s : State) : s.freeEntries - 1 = 447 - (s.ready.length + s.reservedEntries) := by
  simp only [State.freeEntries, Config.replyEntries]
  omega

/-- Settles O19: the body's pools are the sums of R53, field by field. -/
theorem deviceStatusReports : Obligations.DeviceStatusReports := by
  intro s o tag hs
  refine ⟨s.lanes.toList.map fun L => BitVec.ofNat 8 L.link.state.code, fun l => ?_, by simp, ?_⟩
  · simp [State.lane]
  · have hb : s.totalBorrowing = ((List.finRange 24).map fun l => (s.lane l).occupancy - s.reserve).sum :=
      s.sum_lanes s.borrowing
    have hq : leFlag s.squeezed = [if s.squeezed then 1 else 0] := by cases s.squeezed <;> rfl
    simp only [exec, execDeviceStatus]
    rw [arrive_deviceRequest hs oneReply_deviceStatus o 0x01 tag [] rfl (by simp), handleDeviceStatus, State.answer,
      State.deviceStatusBody, hb, hq, State.freeEntries_pred]
    rfl

/-- Section 1.2: a two-byte field holds the number that its bytes give. -/
theorem le16_bytes (a b : Byte) : le16 (a.toNat + 256 * b.toNat) = [a, b] := by
  have ha := a.isLt
  have hd : (a.toNat + 256 * b.toNat) / 256 = b.toNat := by omega
  simp only [le16, hd, List.cons.injEq, and_true]
  refine ⟨BitVec.eq_of_toNat_eq ?_, by simp⟩
  simp only [BitVec.toNat_ofNat]
  omega

/-- R15: a notice request is refused for bit 14 or 15, or a watch byte above 1. -/
theorem noticeFields_bad (e0 e1 watch : Byte) (h : 64 ≤ e1.toNat ∨ 1 < watch.toNat) :
    noticeFields [e0, e1, watch] = none := by
  have hc : ¬ (e0.toNat + 256 * e1.toNat < 0x4000 ∧ watch.toNat ≤ 1) := by omega
  exact if_neg hc

theorem noticeFields_good (e0 e1 watch : Byte) (h1 : e1.toNat < 64) (h2 : watch.toNat ≤ 1) :
    noticeFields [e0, e1, watch] = some (BitVec.ofNat 16 (e0.toNat + 256 * e1.toNat), watch == 1) := by
  have h0 := e0.isLt
  have hc : e0.toNat + 256 * e1.toNat < 0x4000 ∧ watch.toNat ≤ 1 := by omega
  have hw : (watch.toNat == 1) = (watch == 1) := by
    rw [Bool.eq_iff_iff, beq_iff_eq, beq_iff_eq, ← BitVec.toNat_inj]; rfl
  exact (if_pos hc).trans (by rw [← hw]; rfl)

/-- Settles O22. -/
theorem noticeRequests : Obligations.NoticeRequests := by
  intro s o tag e0 e1 watch hs events
  have hopen := arrive_deviceRequest (ok := exactly 3) hs oneReply_openNotices o 0x06 tag [e0, e1, watch] rfl (by simp)
  have hclose := arrive_deviceRequest (ok := exactly 3) hs oneReply_closeNotices o 0x07 tag [e0, e1, watch] rfl (by simp)
  refine ⟨fun h => ?_, fun h1 h2 => ⟨fun m w hm hw => ?_, fun m w hm hw => ?_⟩, ?_⟩
  · simp only [exec, execOpenNotices, execCloseNotices, hopen, hclose, handleOpenNotices, handleCloseNotices,
      noticeFields_bad e0 e1 watch h]
    exact ⟨rfl, rfl⟩
  · subst hm hw
    simp only [exec, execOpenNotices, hopen, handleOpenNotices, noticeFields_good e0 e1 watch h1 h2]
    rfl
  · subst hm hw
    refine ⟨Vector.ofFn fun p => closeEntry events (s.orig o).accumulator[p], fun p => ?_, ?_⟩
    · have hp : (Vector.ofFn fun p : Fin 25 => closeEntry events (s.orig o).accumulator[p])[p] =
          closeEntry events (s.orig o).accumulator[p] := by simp
      rw [hp]
      cases (s.orig o).accumulator[p] <;> rfl
    · simp only [exec, execCloseNotices, hclose, handleCloseNotices, noticeFields_good e0 e1 watch h1 h2]
      rfl
  · simp only [exec, execSetPacing]
    rw [arrive_deviceRequest hs oneReply_setPacing o 0x08 tag [e0, e1] rfl (by simp)]
    have hu : u16At [e0, e1] 0 = e0.toNat + 256 * e1.toNat := rfl
    simp only [handleSetPacing, hu, le16_bytes]
    rfl

end Sys2Proof.Machine
end

section
/-! What the sends of a lane rest on (R26, R35, R66): its traffic, which is all that `LaneState.sendsSound` speaks of, and what
every operation does to it, in the order of the model's files. -/

namespace Sys2Proof.Machine

/-! ### The traffic of a lane -/

/-- What a lane has under way with its phone: the queued sends, whether the link is UP, both engines, and the stall clearings. -/
structure Traffic where
  queue : List SendRecord
  up : Bool
  out : OutEngine
  inn : InEngine
  clearings : List Endpoint
  clearRetry : Timer

def LaneState.traffic (L : LaneState) : Traffic :=
  ⟨L.send.queue, L.link.state == .up, L.link.out, L.link.inn, L.link.clearings, L.link.clearRetry⟩

def State.traffic (s : State) (l : LaneId) : Traffic := (s.lane l).traffic

/-- Nothing is under way. -/
def Traffic.idle (t : Traffic) : Prop :=
  t.queue = [] ∧ t.out = .idle ∧ t.inn = .idle none ∧ t.clearings = [] ∧ t.clearRetry = none

/-- The invariant of one lane's sends as a property of its traffic alone. -/
def Traffic.sound (t : Traffic) : Prop := t.queue.length ≤ 16 ∧ (t.up = false → t.idle)

theorem Traffic.sound_of_idle {t : Traffic} (h : t.idle) : t.sound := ⟨by rw [h.1]; exact Nat.zero_le _, fun _ => h⟩

/-- The invariant of every lane's sends. -/
def State.sendsSound (s : State) : Prop := ∀ l : LaneId, (s.lane l).sendsSound

theorem LaneState.sendsSound_iff (L : LaneState) : L.sendsSound ↔ L.traffic.sound := by
  simp only [LaneState.sendsSound, Traffic.sound, Traffic.idle, LaneState.traffic, beq_eq_false_iff_ne]

theorem State.traffic_onLane (s : State) (l : LaneId) (f : LaneState → LaneState) :
    (s.onLane l f).traffic = Function.update s.traffic l (f (s.lane l)).traffic := by
  funext k
  by_cases h : l = k
  · subst h; simp [State.traffic]
  · simp [State.traffic, h, Function.update_of_ne (Ne.symm h)]

/-- A change of one lane that leaves its traffic. -/
theorem State.traffic_onLane_same (s : State) (l : LaneId) (f : LaneState → LaneState)
    (h : (f (s.lane l)).traffic = (s.lane l).traffic) : (s.onLane l f).traffic = s.traffic := by
  rw [State.traffic_onLane, h]
  exact Function.update_eq_self l s.traffic

/-- A command that leaves the traffic of every lane. -/
theorem State.sendsSound.of_traffic {s t : State} (h : s.sendsSound) (e : t.traffic = s.traffic) : t.sendsSound := by
  intro l
  rw [LaneState.sendsSound_iff, show (t.lane l).traffic = (s.lane l).traffic from congrFun e l]
  exact (LaneState.sendsSound_iff _).1 (h l)

/-- A change of one lane into one with sound traffic. -/
theorem State.sendsSound.onLane {s : State} (h : s.sendsSound) (l : LaneId) {f : LaneState → LaneState}
    (hf : (f (s.lane l)).traffic.sound) : (s.onLane l f).sendsSound := by
  intro k
  by_cases hk : l = k
  · subst hk; rw [State.lane_onLane_self]; exact (LaneState.sendsSound_iff _).2 hf
  · rw [State.lane_onLane_ne _ _ hk]; exact h k

/-- R35: nothing is under way on a lane whose link is not UP. -/
theorem State.sendsSound.idle {s : State} (h : s.sendsSound) {l : LaneId} (hl : (s.lane l).link.state ≠ .up) :
    (s.traffic l).idle :=
  ((LaneState.sendsSound_iff _).1 (h l)).2 (beq_eq_false_iff_ne.2 hl)

/-- A lane with something under way has a link that is UP. -/
theorem State.sendsSound.up {s : State} (h : s.sendsSound) {l : LaneId} (hl : ¬ (s.traffic l).idle) :
    (s.lane l).link.state = .up := by
  by_contra hn
  exact hl (h.idle hn)

/-- R66. -/
theorem State.sendsSound.length_le {s : State} (h : s.sendsSound) (l : LaneId) : (s.lane l).send.queue.length ≤ 16 := (h l).1

/-- A change of the link that leaves the traffic. -/
theorem State.traffic_onLink (s : State) (l : LaneId) (f : LaneState → Link → Link)
    (hs : ((f (s.lane l) (s.lane l).link).state == .up) = ((s.lane l).link.state == .up))
    (ho : (f (s.lane l) (s.lane l).link).out = (s.lane l).link.out)
    (hi : (f (s.lane l) (s.lane l).link).inn = (s.lane l).link.inn)
    (hc : (f (s.lane l) (s.lane l).link).clearings = (s.lane l).link.clearings)
    (hr : (f (s.lane l) (s.lane l).link).clearRetry = (s.lane l).link.clearRetry) :
    (s.onLane l fun L => L.onLink (f L)).traffic = s.traffic :=
  s.traffic_onLane_same l _ (by simp only [LaneState.traffic, LaneState.onLink, hs, ho, hi, hc, hr])

/-! ### Ops.lean: time, events, sense records, replies, the end of a send -/

/-- What is idle stays idle as time passes, and a link comes UP by no timer. -/
theorem LaneState.traffic_pass_sound (d : Nat) (L : LaneState) (h : L.traffic.sound) : (L.pass d).traffic.sound := by
  have hu : (L.pass d).traffic.up = L.traffic.up := by
    simp only [LaneState.traffic, LaneState.pass, Link.pass]
    cases L.link.state <;> rfl
  refine ⟨h.1, fun hn => ?_⟩
  obtain ⟨hq, ho, hi, hc, hr⟩ := h.2 (hu ▸ hn)
  refine ⟨hq, ?_, ?_, hc, ?_⟩
  · exact congrArg (OutEngine.pass d) ho
  · exact congrArg (InEngine.pass d) hi
  · exact congrArg (passTimer d) hr

theorem State.sendsSound.advance {s : State} (h : s.sendsSound) (d : Nat) : (s.advance d).sendsSound := by
  intro l
  rw [State.lane_advance, LaneState.sendsSound_iff]
  exact LaneState.traffic_pass_sound d _ ((LaneState.sendsSound_iff _).1 (h l))

@[simp] theorem State.traffic_onOriginator (s : State) (o : Originator) (f : OriginatorState → OriginatorState) :
    (s.onOriginator o f).traffic = s.traffic := rfl
@[simp] theorem State.traffic_offerLane (s : State) (k : EventKind) (l : LaneId) :
    (s.offerLane k l).traffic = s.traffic := rfl
@[simp] theorem State.traffic_offerDevice (s : State) (k : EventKind) : (s.offerDevice k).traffic = s.traffic := rfl
@[simp] theorem State.traffic_recordLane (s : State) (c : Cond) (o : Originator) (l : LaneId) :
    (s.recordLane c o l).traffic = s.traffic := s.traffic_onLane_same l _ rfl
@[simp] theorem State.traffic_recordDevice (s : State) (c : Cond) (o : Originator) :
    (s.recordDevice c o).traffic = s.traffic := rfl
@[simp] theorem State.traffic_recordAsync (s : State) (c : Cond) (l : LaneId) :
    (s.recordAsync c l).traffic = s.traffic := by
  cases h : (s.lane l).claim with
  | none => rw [State.recordAsync_free _ _ _ h]
  | some k => rw [State.recordAsync_held _ _ _ _ h, State.traffic_recordLane]
@[simp] theorem State.traffic_setAttention (s : State) (cause : BitVec 8) (l : LaneId) :
    (s.setAttention cause l).traffic = s.traffic := s.traffic_onLane_same l _ rfl
@[simp] theorem State.traffic_clearCondition (s : State) (o : Originator) (l : LaneId) :
    (s.clearCondition o l).traffic = s.traffic := s.traffic_onLane_same l _ rfl
@[simp] theorem State.traffic_clearAttention (s : State) (o : Originator) (l : LaneId) :
    (s.clearAttention o l).traffic = s.traffic := s.traffic_onLane_same l _ rfl
@[simp] theorem State.traffic_pushReply (s : State) (r : Reply) : (s.pushReply r).traffic = s.traffic := rfl
@[simp] theorem State.traffic_answer (s : State) (rq : Request) (st : Status) (body : List Byte) :
    (s.answer rq st body).traffic = s.traffic := rfl
@[simp] theorem State.traffic_takeDown (s : State) (n : Nat) : (s.takeDown n).traffic = s.traffic := rfl
@[simp] theorem State.traffic_releaseDown (s : State) (n : Nat) : (s.releaseDown n).traffic = s.traffic := rfl
@[simp] theorem State.traffic_endSendCheck (s : State) (c : Cond) (l : LaneId) (r : SendRecord) :
    (s.endSendCheck c l r).traffic = s.traffic := by simp [State.endSendCheck]
@[simp] theorem State.traffic_endSendGood (s : State) (n : Nat) (l : LaneId) (r : SendRecord) :
    (s.endSendGood n l r).traffic = s.traffic := by simp [State.endSendGood]
@[simp] theorem State.traffic_cancelSends (c : Cond) (l : LaneId) (rs : List SendRecord) (s : State) :
    (s.cancelSends c l rs).traffic = s.traffic := by
  unfold State.cancelSends
  induction rs generalizing s with
  | nil => rfl
  | cons r rs ih => rw [List.foldl_cons, ih, State.traffic_endSendCheck]
@[simp] theorem State.traffic_cancelChain (l : LaneId) (rs : List SendRecord) (k : Nat) (s : State) :
    (s.cancelChain l k rs).traffic = s.traffic := by
  induction rs generalizing k s with
  | nil => rfl
  | cons r rs ih => rw [State.cancelChain, ih, State.traffic_endSendCheck]

/-! ### LaneBus.lean, Flags.lean, Windows.lean -/

@[simp] theorem State.traffic_tookOut (s : State) (l : LaneId) : (s.tookOut l).traffic = s.traffic :=
  s.traffic_onLane_same l _ rfl
@[simp] theorem State.traffic_tookIn (s : State) (l : LaneId) : (s.tookIn l).traffic = s.traffic :=
  s.traffic_onLane_same l _ rfl
@[simp] theorem State.traffic_squeezeAfterAdmission (s : State) : s.squeezeAfterAdmission.traffic = s.traffic := by
  unfold State.squeezeAfterAdmission; split <;> rfl
@[simp] theorem State.traffic_squeezeAfterRelease (s : State) : s.squeezeAfterRelease.traffic = s.traffic := by
  unfold State.squeezeAfterRelease; split <;> rfl
@[simp] theorem State.traffic_squeezeAfterOptions (s : State) : s.squeezeAfterOptions.traffic = s.traffic := by
  simp [State.squeezeAfterOptions]
@[simp] theorem State.traffic_releaseUp (s : State) (n : Nat) (l : LaneId) : (s.releaseUp n l).traffic = s.traffic := by
  rw [State.releaseUp, State.traffic_squeezeAfterRelease]
  exact s.traffic_onLane_same l _ rfl
@[simp] theorem State.traffic_onUpstream (s : State) (l : LaneId) (f : LaneState → Upstream → Upstream) :
    (s.onLane l fun L => L.onUpstream (f L)).traffic = s.traffic := s.traffic_onLane_same l _ rfl
@[simp] theorem State.traffic_onSupply (s : State) (l : LaneId) (f : LaneState → Supply → Supply) :
    (s.onLane l fun L => L.onSupply (f L)).traffic = s.traffic := s.traffic_onLane_same l _ rfl
@[simp] theorem State.traffic_onStrokes (s : State) (l : LaneId) (f : LaneState → Strokes → Strokes) :
    (s.onLane l fun L => L.onStrokes (f L)).traffic = s.traffic := s.traffic_onLane_same l _ rfl
@[simp] theorem State.traffic_discardUpstream (s : State) (l : LaneId) : (s.discardUpstream l).traffic = s.traffic := by
  rw [State.discardUpstream, State.traffic_releaseUp, State.traffic_onUpstream]
@[simp] theorem State.traffic_endWindow (s : State) (done : Bool) (p : WindowParams) (f : Figures) (l : LaneId) :
    (s.endWindow done p f l).traffic = s.traffic := by
  rw [State.endWindow, State.traffic_offerLane, State.traffic_onSupply]
@[simp] theorem State.traffic_abortOnTrip (s : State) (l : LaneId) : (s.abortOnTrip l).traffic = s.traffic := by
  unfold State.abortOnTrip; split <;> simp
@[simp] theorem State.traffic_abortOnEmptied (s : State) (l : LaneId) : (s.abortOnEmptied l).traffic = s.traffic := by
  unfold State.abortOnEmptied; split <;> simp
@[simp] theorem State.traffic_windowSample (s : State) (v : Nat) (l : LaneId) : (s.windowSample v l).traffic = s.traffic := by
  unfold State.windowSample
  split
  · rw [State.traffic_onSupply]
  · split <;> simp
  · rfl
@[simp] theorem State.traffic_trip (s : State) (v : Nat) (l : LaneId) : (s.trip v l).traffic = s.traffic := by
  simp [State.trip]
@[simp] theorem State.traffic_tripSample (s : State) (v : Nat) (l : LaneId) : (s.tripSample v l).traffic = s.traffic := by
  unfold State.tripSample
  dsimp only
  split <;> simp

/-! ### LinkOps.lean -/

@[simp] theorem State.traffic_zeroErrors (s : State) (l : LaneId) : (s.zeroErrors l).traffic = s.traffic :=
  s.traffic_onLink l _ rfl rfl rfl rfl rfl

/-- A link on which nothing is under way may enter any state. -/
theorem State.sendsSound.onLink_idle {s : State} (h : s.sendsSound) {l : LaneId} (hi : (s.traffic l).idle)
    {f : LaneState → Link → Link} (ho : (f (s.lane l) (s.lane l).link).out = (s.lane l).link.out)
    (hn : (f (s.lane l) (s.lane l).link).inn = (s.lane l).link.inn)
    (hc : (f (s.lane l) (s.lane l).link).clearings = (s.lane l).link.clearings)
    (hr : (f (s.lane l) (s.lane l).link).clearRetry = (s.lane l).link.clearRetry) :
    (s.onLane l fun L => L.onLink (f L)).sendsSound := by
  refine h.onLane l (Traffic.sound_of_idle ?_)
  obtain ⟨iq, io, ii, ic, ir⟩ := hi
  exact ⟨iq, ho.trans io, hn.trans ii, hc.trans ic, hr.trans ir⟩

theorem State.sendsSound.setLinkState {s : State} (h : s.sendsSound) {l : LaneId} (hi : (s.traffic l).idle)
    (k : LinkState) : (s.setLinkState k l).sendsSound := h.onLink_idle hi rfl rfl rfl rfl
theorem State.sendsSound.enterAttaching {s : State} (h : s.sendsSound) {l : LaneId} (hi : (s.traffic l).idle) :
    (s.enterAttaching l).sendsSound := h.onLink_idle hi rfl rfl rfl rfl
theorem State.sendsSound.enterWaiting {s : State} (h : s.sendsSound) {l : LaneId} (hi : (s.traffic l).idle) :
    (s.enterWaiting l).sendsSound := by
  unfold State.enterWaiting
  split
  · exact h.enterAttaching hi
  · exact h.setLinkState hi _

theorem State.traffic_leaveUp (s : State) (l : LaneId) :
    (s.leaveUp l).traffic = Function.update s.traffic l ⟨[], (s.traffic l).up, .idle, .idle none, [], none⟩ := by
  rw [State.leaveUp, State.traffic_offerLane, State.traffic_cancelSends, State.traffic_onLane]
  rfl

/-- R35: nothing is under way on a link that has left UP. -/
theorem State.idle_leaveUp (s : State) (l : LaneId) : ((s.leaveUp l).traffic l).idle := by
  rw [State.traffic_leaveUp, Function.update_self]
  exact ⟨rfl, rfl, rfl, rfl, rfl⟩

theorem State.sendsSound.leaveUp {s : State} (h : s.sendsSound) (l : LaneId) : (s.leaveUp l).sendsSound := by
  have hq : (s.onLane l fun L => { L with link := L.link.quiet, send := { L.send with queue := [] } }).sendsSound :=
    h.onLane l (Traffic.sound_of_idle ⟨rfl, rfl, rfl, rfl, rfl⟩)
  exact hq.of_traffic (by rw [State.leaveUp, State.traffic_offerLane, State.traffic_cancelSends])

theorem State.sendsSound.linkFault {s : State} (h : s.sendsSound) (e : Nat) (l : LaneId) : (s.linkFault e l).sendsSound :=
  State.sendsSound.enterAttaching ((h.of_traffic (s.traffic_recordAsync _ l)).leaveUp l) (State.idle_leaveUp _ l)
theorem State.sendsSound.attachFails {s : State} (h : s.sendsSound) {l : LaneId} (hi : (s.traffic l).idle) (n : Nat) :
    (s.attachFails n l).sendsSound :=
  (h.setLinkState hi .failed).of_traffic (by rw [State.attachFails, State.traffic_recordAsync, State.traffic_offerLane])

/-- R32: a link that enters UP takes the queue that it finds. -/
theorem State.sendsSound.attachSucceeds {s : State} (h : s.sendsSound) (id : Identity) (l : LaneId) :
    (s.attachSucceeds id l).sendsSound := by
  have hu : (s.onLane l fun L => L.onLink fun n =>
      { n with state := .up, epoch := n.epoch + 1, identity := some id }).sendsSound :=
    h.onLane l ⟨h.length_le l, fun hn => absurd hn (by simp [LaneState.traffic])⟩
  refine hu.of_traffic ?_
  rw [State.attachSucceeds, State.traffic_onSupply, State.traffic_onUpstream, State.traffic_offerLane,
    State.traffic_setAttention]

theorem State.sendsSound.linkNestSeated {s : State} (h : s.sendsSound) (l : LaneId) : (s.linkNestSeated l).sendsSound := by
  unfold State.linkNestSeated
  split
  · next hs => exact h.enterWaiting (h.idle (by rw [hs]; decide))
  · exact h
theorem State.sendsSound.linkNestEmptied {s : State} (h : s.sendsSound) (l : LaneId) : (s.linkNestEmptied l).sendsSound := by
  unfold State.linkNestEmptied
  extract_lets t
  have ht : t.sendsSound := by
    unfold t
    split
    · exact h
    · exact h
    · next hs => exact h.setLinkState (h.idle (by rw [hs]; decide)) _
    · next hs => exact h.setLinkState (h.idle (by simp [hs])) _
    · exact (h.leaveUp l).setLinkState (s.idle_leaveUp l) _
    · next hs => exact h.setLinkState (h.idle (by rw [hs]; decide)) _
  exact ht.of_traffic (t.traffic_onLink l _ rfl rfl rfl rfl rfl)
theorem State.sendsSound.linkConnect {s : State} (h : s.sendsSound) (l : LaneId) : (s.linkConnect l).sendsSound := by
  unfold State.linkConnect
  split
  · next hs => exact h.enterAttaching (h.idle (by rw [hs]; decide))
  · exact h
theorem State.sendsSound.linkDisconnect {s : State} (h : s.sendsSound) (l : LaneId) : (s.linkDisconnect l).sendsSound := by
  unfold State.linkDisconnect
  split
  · next hs => exact h.enterWaiting (h.idle (by simp [hs]))
  · exact (h.leaveUp l).enterWaiting (s.idle_leaveUp l)
  · next hs => exact h.enterWaiting (h.idle (by rw [hs]; decide))
  · exact h
theorem State.sendsSound.linkReattach {s : State} (h : s.sendsSound) (l : LaneId) : (s.linkReattach l).sendsSound := by
  unfold State.linkReattach
  split
  · exact h
  · exact h
  · next hs => exact h.enterWaiting (h.idle (by rw [hs]; decide))
  · next hs => exact h.enterWaiting (h.idle (by simp [hs]))
  · exact (h.leaveUp l).enterWaiting (s.idle_leaveUp l)
  · next hs => exact h.enterWaiting (h.idle (by rw [hs]; decide))
theorem State.sendsSound.linkOff {s : State} (h : s.sendsSound) (l : LaneId) : (s.linkOff l).sendsSound := by
  unfold State.linkOff
  split
  · exact (h.leaveUp l).setLinkState (s.idle_leaveUp l) _
  · next hs => exact h.setLinkState (h.idle hs) _
theorem State.sendsSound.linkOn {s : State} (h : s.sendsSound) (l : LaneId) : (s.linkOn l).sendsSound := by
  unfold State.linkOn
  split
  · next hs =>
    have hi := h.idle (l := l) (by rw [hs]; decide)
    split
    · exact h.enterWaiting hi
    · exact h.setLinkState hi _
  · exact h
theorem State.sendsSound.linkLaneReset {s : State} (h : s.sendsSound) (l : LaneId) : (s.linkLaneReset l).sendsSound := by
  have hr := h.linkReattach l
  refine hr.onLane l ⟨hr.length_le l, fun hn => ?_⟩
  obtain ⟨hq, ho, hi, -, -⟩ := ((LaneState.sendsSound_iff _).1 (hr l)).2 hn
  exact ⟨hq, ho, hi, rfl, rfl⟩

/-- R36, R37: at the attempt limit a link fault, and otherwise what `go` makes of the lane with its error counted. -/
theorem State.sendsSound.transportError {s : State} (h : s.sendsSound) (e : Nat) (l : LaneId) {go : State → State}
    (hgo : ∀ t : State, t.sendsSound → t.traffic = s.traffic → (go t).sendsSound) : (s.transportError e l go).sendsSound := by
  have ht : (s.onLane l fun L => L.onLink fun n => { n with errorCount := n.errorCount + 1 }).traffic = s.traffic :=
    s.traffic_onLink l _ rfl rfl rfl rfl rfl
  unfold State.transportError
  dsimp only
  split
  · exact (h.of_traffic ht).linkFault e l
  · exact hgo _ (h.of_traffic ht) ht

end Sys2Proof.Machine
end

section
/-! What the events of a lane do to its traffic: the collector, the attach, the fixture, and both engines (R29 to R43, R66 to
R74, R84 to R93). -/

namespace Sys2Proof.Machine

/-! ### Collector.lean, Arbiter.lean -/

@[simp] theorem State.traffic_overrun (s : State) (seq : BitVec 16) (l : LaneId) : (s.overrun seq l).traffic = s.traffic := by
  rw [State.overrun, State.traffic_offerLane, State.traffic_recordAsync, State.traffic_onUpstream]

/-- A packet that joins the upstream queue leaves the downstream traffic. -/
theorem LaneState.traffic_recordsJoined (before : List PacketRecord) (L : LaneState) :
    (L.recordsJoined before).traffic = L.traffic := by
  unfold LaneState.recordsJoined LaneState.evalEligible
  split_ifs <;> rfl
theorem LaneState.traffic_takeIn (p : PacketRecord) (L : LaneState) : (L.takeIn p).traffic = L.traffic :=
  LaneState.traffic_recordsJoined _ _
theorem LaneState.traffic_returned (records : List PacketRecord) (L : LaneState) : (L.returned records).traffic = L.traffic := by
  unfold LaneState.returned
  split
  · rfl
  · exact LaneState.traffic_recordsJoined _ _

@[simp] theorem State.traffic_sequenceStep (s : State) (data : List Byte) (damaged urgent : Bool) (l : LaneId) :
    (s.sequenceStep data damaged urgent l).traffic = s.traffic := by
  unfold State.sequenceStep
  dsimp only
  split
  · rw [State.traffic_squeezeAfterAdmission, State.traffic_onLane_same, State.traffic_onUpstream]
    exact LaneState.traffic_takeIn _ _
  · rw [State.traffic_overrun, State.traffic_onUpstream]
@[simp] theorem State.traffic_classStep (s : State) (data : List Byte) (damaged : Bool) (l : LaneId) :
    (s.classStep data damaged l).traffic = s.traffic := by
  unfold State.classStep
  split <;> simp
@[simp] theorem State.traffic_arrival (s : State) (kept : List Byte) (count : Nat) (l : LaneId) :
    (s.arrival kept count l).traffic = s.traffic := by
  unfold State.arrival
  split_ifs <;> simp

/-- R94: the choice of a lane moves the arbiter's values alone. -/
theorem State.traffic_chooseLane {s t : State} {l : LaneId} (h : s.chooseLane = some (l, t)) : t.traffic = s.traffic :=
  funext fun k => congrArg LaneState.traffic (State.lane_chooseLane h k)
theorem State.traffic_buildDataUp {s t : State} {l : LaneId} {f : Frame} (h : s.buildDataUp l = some (f, t)) :
    t.traffic = s.traffic := by
  unfold State.buildDataUp at h
  split at h
  · cases h
  · cases h; exact s.traffic_onUpstream l _
theorem State.traffic_buildFrame {s t : State} {f : Frame} (h : s.buildFrame = some (f, t)) : t.traffic = s.traffic := by
  unfold State.buildFrame at h
  split at h
  · cases h; rfl
  · split at h
    · cases h; rfl
    · split at h
      · next hc => rw [State.traffic_buildDataUp h, State.traffic_chooseLane hc]
      · cases h
@[simp] theorem State.traffic_placeFrame (s : State) (f : Frame) : (s.placeFrame f).traffic = s.traffic := by
  unfold State.placeFrame; split <;> rfl

/-! ### AttachEvents.lean -/

/-- R29: an attach that goes to another phase stays an attach. -/
@[simp] theorem State.traffic_setPhase (s : State) (p : AttachPhase) (l : LaneId) : (s.setPhase p l).traffic = s.traffic := by
  unfold State.setPhase
  cases hs : (s.lane l).link.state with
  | attaching a => exact s.traffic_onLink l (fun _ n => _) (by simp [hs]) (by simp [hs]) (by simp [hs]) (by simp [hs]) (by simp [hs])
  | disabled | vacant | waiting | up | failed =>
    exact s.traffic_onLink l (fun _ n => _) (by simp [hs]) (by simp [hs]) (by simp [hs]) (by simp [hs]) (by simp [hs])

theorem State.sendsSound.judgeIdentity {s : State} (h : s.sendsSound) {l : LaneId} (hi : (s.traffic l).idle)
    (bytes : List Byte) (count : Nat) : (s.judgeIdentity bytes count l).sendsSound := by
  unfold State.judgeIdentity
  split
  · split
    · exact h.attachSucceeds _ l
    · exact h.attachFails hi _
  · exact h.of_traffic (State.traffic_setPhase ..)
theorem State.sendsSound.identityRequest {s : State} (h : s.sendsSound) {l : LaneId} (hi : (s.traffic l).idle)
    (r : OutResult) : (s.identityRequest r l).sendsSound := by
  cases r with
  | accepted => exact h.of_traffic (by simp [State.identityRequest])
  | nak => exact h
  | transportError => exact h.of_traffic (State.traffic_setPhase ..)
  | stall => exact h.attachFails hi _
theorem State.sendsSound.identityRead {s : State} (h : s.sendsSound) {l : LaneId} (hi : (s.traffic l).idle)
    (r : InResult) (p : Poll) : (s.identityRead r p l).sendsSound := by
  cases r with
  | data toggle bytes =>
    simp only [State.identityRead]
    split
    · exact h.of_traffic (State.traffic_setPhase ..)
    · exact h
    · exact h.of_traffic (by simp)
    · exact (h.of_traffic (s.traffic_tookIn l)).judgeIdentity (by rw [State.traffic_tookIn]; exact hi) _ _
  | nak =>
    simp only [State.identityRead]
    split
    · exact h.of_traffic (State.traffic_setPhase ..)
    · exact h
  | transportError => exact h.of_traffic (State.traffic_setPhase ..)
  | stall => exact h.attachFails hi _

/-! ### StrokeOps.lean, FixtureEvents.lean -/

@[simp] theorem State.traffic_startStep (s : State) (l : LaneId) : (s.startStep l).traffic = s.traffic := by
  unfold State.startStep
  split
  · rfl
  · dsimp only
    split
    · rw [State.traffic_offerLane]; exact s.traffic_onLane_same l _ rfl
    · exact s.traffic_onLane_same l _ rfl
@[simp] theorem State.traffic_endRun (s : State) (l : LaneId) : (s.endRun l).traffic = s.traffic := by simp [State.endRun]
@[simp] theorem State.traffic_afterStep (s : State) (e : Step) (l : LaneId) : (s.afterStep e l).traffic = s.traffic := by
  unfold State.afterStep
  split
  · simp
  · split <;> simp
@[simp] theorem State.traffic_sample (s : State) (v : Nat) (l : LaneId) : (s.sample v l).traffic = s.traffic := by
  simp [State.sample]
@[simp] theorem State.traffic_answerStop (s : State) (l : LaneId) (w : StopWait) : (s.answerStop l w).traffic = s.traffic := by
  simp [State.answerStop]
theorem State.traffic_answerStops (l : LaneId) (ws : List StopWait) (s : State) :
    (ws.foldl (fun t w => t.answerStop l w) s).traffic = s.traffic := by
  induction ws generalizing s with
  | nil => rfl
  | cons w ws ih => rw [List.foldl_cons, ih, State.traffic_answerStop]
@[simp] theorem State.traffic_strokesNestEmptied (s : State) (l : LaneId) : (s.strokesNestEmptied l).traffic = s.traffic := by
  unfold State.strokesNestEmptied
  split <;> simp
@[simp] theorem State.traffic_keepNestEmptied (s : State) (l : LaneId) : (s.keepNestEmptied l).traffic = s.traffic := by
  unfold State.keepNestEmptied
  split
  · rw [State.traffic_onLane_same _ _ _ rfl, State.traffic_recordAsync]
  · rfl
theorem State.sendsSound.nestSeated {s : State} (h : s.sendsSound) (l : LaneId) : (s.nestSeated l).sendsSound :=
  (h.linkNestSeated l).of_traffic (by simp [State.nestSeated])
theorem State.sendsSound.nestEmptied {s : State} (h : s.sendsSound) (l : LaneId) : (s.nestEmptied l).sendsSound :=
  (h.linkNestEmptied l).of_traffic (by simp [State.nestEmptied])

/-! ### SendRequests.lean, OutEngine.lean, InEngine.lean -/

@[simp] theorem State.traffic_setHalted (s : State) (b : Bool) (l : LaneId) : (s.setHalted b l).traffic = s.traffic :=
  s.traffic_onLane_same l _ rfl

/-- A lane that loses queued sends, and whose link goes on as it is. -/
theorem Traffic.sound.shorter {t u : Traffic} (h : t.sound) (hq : u.queue <:+ t.queue) (hu : u.up = t.up)
    (ho : t.out = .idle → u.out = .idle) (hi : u.inn = t.inn) (hc : u.clearings = t.clearings)
    (hr : u.clearRetry = t.clearRetry) : u.sound := by
  refine ⟨hq.length_le.trans h.1, fun hn => ?_⟩
  obtain ⟨iq, io, ii, ic, ir⟩ := h.2 (hu ▸ hn)
  exact ⟨List.suffix_nil.1 (iq ▸ hq), ho io, hi.trans ii, hc.trans ic, hr.trans ir⟩

theorem State.sendsSound.lane {s : State} (h : s.sendsSound) (l : LaneId) : (s.lane l).traffic.sound :=
  (LaneState.sendsSound_iff _).1 (h l)

theorem State.sendsSound.flushDown {s : State} (h : s.sendsSound) (l : LaneId) : (s.flushDown l).sendsSound :=
  State.sendsSound.of_traffic
    (s := s.onLane l fun L => { L with send := { queue := [], halted := false } })
    (h.onLane l ((h.lane l).shorter List.nil_suffix rfl id rfl rfl rfl)) (State.traffic_cancelSends ..)
theorem State.sendsSound.resetSends {s : State} (h : s.sendsSound) (l : LaneId) : (s.resetSends l).sendsSound :=
  State.sendsSound.of_traffic
    (s := s.onLane l fun L => { L with link := { L.link with out := .idle }, send := { queue := [], halted := false } })
    (h.onLane l ((h.lane l).shorter List.nil_suffix rfl (fun _ => rfl) rfl rfl rfl)) (State.traffic_cancelSends ..)
@[simp] theorem State.traffic_resetFixture (s : State) (l : LaneId) : (s.resetFixture l).traffic = s.traffic := by
  rw [State.resetFixture, State.traffic_onLane_same _ _ _ rfl, State.traffic_discardUpstream]

/-- R38, R41: an engine of a link that is UP may enter any state. -/
theorem State.sendsSound.onLink_up {s : State} (h : s.sendsSound) {l : LaneId} (hu : (s.lane l).link.state = .up)
    {f : LaneState → Link → Link} (hf : (f (s.lane l) (s.lane l).link).state = (s.lane l).link.state) :
    (s.onLane l fun L => L.onLink (f L)).sendsSound :=
  h.onLane l ⟨h.length_le l, fun hn => absurd hn (by simp [LaneState.traffic, hf, hu])⟩

theorem State.sendsSound.setOut {s : State} (h : s.sendsSound) {l : LaneId} (hu : (s.lane l).link.state = .up)
    (e : OutEngine) : (s.setOut e l).sendsSound := h.onLink_up hu rfl
theorem State.sendsSound.setIn {s : State} (h : s.sendsSound) {l : LaneId} (hu : (s.lane l).link.state = .up)
    (e : InEngine) : (s.setIn e l).sendsSound := h.onLink_up hu rfl
theorem State.sendsSound.needClearing {s : State} (h : s.sendsSound) {l : LaneId} (hu : (s.lane l).link.state = .up)
    (e : Endpoint) : (s.needClearing e l).sendsSound := h.onLink_up hu rfl

/-- R41: a recheck finds a poll under way, or issues one, on a link that is UP alone. -/
theorem State.sendsSound.recheckPoll {s : State} (h : s.sendsSound) (l : LaneId) {p : Option Poll}
    (hp : p ≠ none → (s.lane l).link.state = .up) : (s.recheckPoll p l).sendsSound := by
  by_cases hu : (s.lane l).link.state = .up
  · exact h.setIn hu _
  · have hm : ¬ s.pollConditions l := fun hc => hu hc.1
    obtain rfl : p = none := by_contra fun hn => hu (hp hn)
    have hi : (s.lane l).link.inn = .idle none := (h.idle hu).2.2.1
    rw [(s.recheckPoll_spec l none).2 hm, ← hi, State.setIn_same]
    exact h

/-- Operations that keep the traffic keep the link UP. -/
theorem State.up_of_traffic {s t : State} {l : LaneId} (e : t.traffic = s.traffic) (hu : (s.lane l).link.state = .up) :
    (t.lane l).link.state = .up := by
  have he : (t.traffic l).up = (s.traffic l).up := by rw [e]
  simpa [State.traffic, LaneState.traffic, hu] using he

theorem splitChain_suffix (rs : List SendRecord) : (splitChain rs).2 <:+ rs := by
  induction rs with
  | nil => exact List.nil_suffix
  | cons r rs ih =>
    unfold splitChain
    split
    · exact ih.trans (List.suffix_cons r rs)
    · exact List.suffix_cons r rs

theorem State.sendsSound.sendSucceeds {s : State} (h : s.sendsSound) (f : Flight) (l : LaneId) :
    (s.sendSucceeds f l).sendsSound := by
  unfold State.sendSucceeds
  extract_lets retries t
  have ht : t.sendsSound := h.onLane l ((h.lane l).shorter List.suffix_rfl rfl (fun _ => rfl) rfl rfl rfl)
  split
  · exact ht.of_traffic (State.traffic_endSendCheck ..)
  · exact ht.of_traffic (State.traffic_endSendGood ..)

theorem State.sendsSound.sendRefused {s : State} (h : s.sendsSound) (cond : Nat → Cond) (f : Flight) (l : LaneId) :
    (s.sendRefused cond f l).sendsSound := by
  unfold State.sendRefused
  extract_lets parts t
  have hs : parts.2 <:+ (s.lane l).send.queue := by
    unfold parts
    split
    · exact splitChain_suffix _
    · exact List.suffix_rfl
  have ht : (s.onLane l fun L =>
      { L with link := { L.link with out := .idle }, send := { queue := parts.2, halted := true } }).sendsSound :=
    h.onLane l ((h.lane l).shorter hs rfl (fun _ => rfl) rfl rfl rfl)
  exact ht.of_traffic (by rw [State.traffic_cancelChain, State.traffic_endSendCheck, State.traffic_offerLane])

/-- R73: the link of a refused send goes on as it is. -/
theorem State.up_sendRefused (s : State) (cond : Nat → Cond) (f : Flight) (l : LaneId) :
    ((s.sendRefused cond f l).traffic l).up = (s.traffic l).up := by
  unfold State.sendRefused
  dsimp only
  rw [State.traffic_cancelChain, State.traffic_endSendCheck, State.traffic_offerLane, State.traffic_onLane,
    Function.update_self]
  rfl

theorem State.sendsSound.packetEnds {s : State} (h : s.sendsSound) {l : LaneId} (hu : (s.lane l).link.state = .up)
    (bytes : List Byte) (count : Nat) : (s.packetEnds bytes count l).sendsSound := by
  refine State.sendsSound.recheckPoll ((h.setIn hu (.idle none)).of_traffic ?_) l fun hn => absurd rfl hn
  rw [State.traffic_arrival, State.traffic_onLane_same _ _ _ rfl]
theorem State.sendsSound.pollError {s : State} (h : s.sendsSound) {l : LaneId} (hu : (s.lane l).link.state = .up)
    (p : Poll) : (s.pollError p l).sendsSound :=
  h.transportError 1 l fun _ ht e => ht.setIn (State.up_of_traffic e hu) _

end Sys2Proof.Machine
end

section
/-! At most 16 sends are queued, and only a link that is UP has sends, polls and clearings (R26, R35, R66): every request and
every other command keeps it. -/

namespace Sys2Proof.Machine

/-! ### Requests -/

/-- What the handling of a request keeps. -/
def KeepsSends (f : State → State) : Prop := ∀ s : State, s.sendsSound → (f s).sendsSound

theorem KeepsSends.of_traffic {f : State → State} (h : ∀ s, (f s).traffic = s.traffic) : KeepsSends f :=
  fun s hs => hs.of_traffic (h s)

@[simp] theorem State.traffic_setRx (s : State) (x : Rx) : (s.setRx x).traffic = s.traffic := rfl
@[simp] theorem State.traffic_pump (s : State) : s.pump.traffic = s.traffic := rfl
@[simp] theorem State.traffic_setClaim (s : State) (c : Option Claim) (l : LaneId) : (s.setClaim c l).traffic = s.traffic :=
  s.traffic_onLane_same l _ rfl

theorem State.traffic_refuseForm (c : Cond) (rq : Request) (s : State) : (s.refuseForm c rq).traffic = s.traffic := by
  unfold State.refuseForm
  split <;> simp
@[simp] theorem State.traffic_refuseLane (s : State) (c : Cond) (l : LaneId) (rq : Request) :
    (s.refuseLane c l rq).traffic = s.traffic := by simp [State.refuseLane]
@[simp] theorem State.traffic_refuseDevice (s : State) (c : Cond) (rq : Request) :
    (s.refuseDevice c rq).traffic = s.traffic := by simp [State.refuseDevice]
@[simp] theorem State.traffic_refuseAttention (s : State) (l : LaneId) (rq : Request) :
    (s.refuseAttention l rq).traffic = s.traffic := by simp [State.refuseAttention]
@[simp] theorem State.traffic_goodLane (s : State) (body : List Byte) (l : LaneId) (rq : Request) :
    (s.goodLane body l rq).traffic = s.traffic := by simp [State.goodLane]

theorem State.sendsSound.goodLane {s : State} (h : s.sendsSound) (body : List Byte) (l : LaneId) (rq : Request) :
    (s.goodLane body l rq).sendsSound := h.of_traffic (s.traffic_goodLane body l rq)
theorem State.sendsSound.refuseLane {s : State} (h : s.sendsSound) (c : Cond) (l : LaneId) (rq : Request) :
    (s.refuseLane c l rq).sendsSound := h.of_traffic (s.traffic_refuseLane c l rq)

theorem KeepsSends.laneRequest {handle : LaneId → Request → State → State} (h : ∀ l rq, KeepsSends (handle l rq))
    (access : Access) (ok : Nat → Bool) (rq : Request) : KeepsSends (laneRequest access ok handle rq) := by
  intro s hs
  unfold Machine.laneRequest
  dsimp only
  split_ifs
  · exact hs.of_traffic (s.traffic_refuseForm _ rq)
  · exact hs.of_traffic (s.traffic_refuseAttention _ rq)
  · exact hs.of_traffic (s.traffic_answer rq _ _)
  · exact h _ rq s hs
  · exact hs.of_traffic (s.traffic_refuseForm _ rq)

theorem KeepsSends.deviceRequest {handle : Request → State → State} (h : ∀ rq, KeepsSends (handle rq))
    (ok : Nat → Bool) (rq : Request) : KeepsSends (deviceRequest ok handle rq) := by
  intro s hs
  unfold Machine.deviceRequest
  split_ifs
  · exact hs.of_traffic (s.traffic_refuseForm _ rq)
  · exact hs.of_traffic (s.traffic_refuseForm _ rq)
  · exact h rq s hs

/-- A request changes the traffic by its handling alone. -/
theorem arrive_sendsSound {rq : Request} {handle : Request → State → State} (hk : KeepsSends (handle rq)) {s : State}
    (h : s.sendsSound) : (arrive rq handle s).sendsSound := by
  unfold arrive State.takeRequest
  split
  · exact h
  · next t ht =>
    have hx : ∃ x, t = s.setRx x := by
      split_ifs at ht
      · exact ⟨_, (Option.some.inj ht).symm⟩
      · exact ⟨_, (Option.some.inj ht).symm⟩
    obtain ⟨x, rfl⟩ := hx
    exact State.sendsSound.of_traffic (hk (s.setRx x) h) (State.traffic_pump _)

/-! Device scope. -/

theorem keepsSends_configurePool (rq : Request) : KeepsSends (handleConfigurePool rq) := by
  refine KeepsSends.of_traffic fun s => ?_
  have ha (d g : Nat) : (s.applySplit d g).traffic = s.traffic := by
    have hl : (({ s with downCells := d, reserve := g } : State).onLanes fun _ L => L.holdAfterOptions).traffic = s.traffic := by
      funext l
      rw [State.traffic, State.lane_onLanes]
      rfl
    unfold State.applySplit
    dsimp only
    split
    · rw [State.traffic_offerDevice]; exact hl
    · exact hl
  unfold handleConfigurePool
  dsimp only
  split_ifs <;> simp [ha]
theorem keepsSends_deviceReset (rq : Request) : KeepsSends (handleDeviceReset rq) := .of_traffic fun _ => rfl
theorem keepsSends_setPacing (rq : Request) : KeepsSends (handleSetPacing rq) := .of_traffic fun _ => rfl
theorem keepsSends_deviceSense (rq : Request) : KeepsSends (handleDeviceSense rq) := .of_traffic fun _ => rfl
theorem keepsSends_setClassActions (rq : Request) : KeepsSends (handleSetClassActions rq) := by
  refine KeepsSends.of_traffic fun s => ?_
  unfold handleSetClassActions
  dsimp only
  split
  · simp
  · rfl
theorem keepsSends_openNotices (rq : Request) : KeepsSends (handleOpenNotices rq) := by
  refine KeepsSends.of_traffic fun s => ?_
  unfold handleOpenNotices
  split <;> simp
theorem keepsSends_closeNotices (rq : Request) : KeepsSends (handleCloseNotices rq) := by
  refine KeepsSends.of_traffic fun s => ?_
  unfold handleCloseNotices
  split <;> simp

theorem State.traffic_startLanes (o : Originator) (ls : List LaneId) (s : State) :
    (s.startLanes o ls).traffic = s.traffic := by
  unfold State.startLanes
  generalize startInstantOf s.timebase = instant
  generalize toStartInstant s.timebase = left
  induction ls generalizing s with
  | nil => rfl
  | cons l ls ih => rw [List.foldl_cons, ih]; simp
theorem State.traffic_clearAttentions (o : Originator) (ls : List LaneId) (s : State) :
    (ls.foldl (fun t k => t.clearAttention o k) s).traffic = s.traffic := by
  induction ls generalizing s with
  | nil => rfl
  | cons l ls ih => rw [List.foldl_cons, ih, State.traffic_clearAttention]
theorem keepsSends_startStrokes (rq : Request) : KeepsSends (handleStartStrokes rq) := by
  refine KeepsSends.of_traffic fun s => ?_
  unfold handleStartStrokes
  dsimp only
  split
  · simp
  · split
    · rw [State.traffic_answer, State.traffic_clearAttentions]
    · split
      · simp
      · split
        · simp
        · split
          · simp
          · rw [State.traffic_answer, State.traffic_startLanes]

/-! Lane scope: requests that leave the traffic. -/

theorem keepsSends_claimLane (l : LaneId) (rq : Request) : KeepsSends (handleClaimLane l rq) := by
  refine KeepsSends.of_traffic fun s => ?_
  unfold handleClaimLane
  split
  · simp
  · split
    · simp
    · dsimp only; split <;> simp
theorem keepsSends_yieldLane (l : LaneId) (rq : Request) : KeepsSends (handleYieldLane l rq) := by
  refine KeepsSends.of_traffic fun s => ?_
  unfold handleYieldLane
  split_ifs <;> simp
theorem keepsSends_breakClaim (l : LaneId) (rq : Request) : KeepsSends (handleBreakClaim l rq) := by
  refine KeepsSends.of_traffic fun s => ?_
  unfold handleBreakClaim
  split <;> simp
theorem keepsSends_laneSense (l : LaneId) (rq : Request) : KeepsSends (handleLaneSense l rq) :=
  KeepsSends.of_traffic fun s => by
    rw [handleLaneSense, State.traffic_answer]
    exact s.traffic_onLane_same l _ rfl
theorem keepsSends_setLaneOptions (l : LaneId) (rq : Request) : KeepsSends (handleSetLaneOptions l rq) := by
  refine KeepsSends.of_traffic fun s => ?_
  have ha : (s.onLane l (LaneState.applyOptions rq.body)).traffic = s.traffic := by
    refine s.traffic_onLane_same l _ ?_
    unfold LaneState.applyOptions LaneState.evalPack LaneState.evalEligible
    split_ifs <;> rfl
  unfold handleSetLaneOptions
  split
  · simp [ha]
  · simp
theorem keepsSends_resumeSend (l : LaneId) (rq : Request) : KeepsSends (handleResumeSend l rq) :=
  KeepsSends.of_traffic fun s => by simp [handleResumeSend]
theorem keepsSends_supply (l : LaneId) (rq : Request) : KeepsSends (handleSupply l rq) := by
  refine KeepsSends.of_traffic fun s => ?_
  unfold handleSupply
  dsimp only
  split
  · simp
  · split
    · simp
    · split
      · rw [State.traffic_goodLane, State.traffic_onLane_same _ _ _ rfl]
      · split <;> simp
theorem keepsSends_setTrip (l : LaneId) (rq : Request) : KeepsSends (handleSetTrip l rq) :=
  KeepsSends.of_traffic fun s => by simp [handleSetTrip]
theorem keepsSends_armWindow (l : LaneId) (rq : Request) : KeepsSends (handleArmWindow l rq) := by
  refine KeepsSends.of_traffic fun s => ?_
  unfold handleArmWindow
  split
  · simp
  · split_ifs <;> simp
theorem keepsSends_cancelWindow (l : LaneId) (rq : Request) : KeepsSends (handleCancelWindow l rq) :=
  KeepsSends.of_traffic fun s => by simp [handleCancelWindow]
theorem keepsSends_queueStrokes (l : LaneId) (rq : Request) : KeepsSends (handleQueueStrokes l rq) := by
  refine KeepsSends.of_traffic fun s => ?_
  unfold handleQueueStrokes
  dsimp only
  split
  · simp
  · split_ifs <;> simp
theorem keepsSends_stopStrokes (l : LaneId) (rq : Request) : KeepsSends (handleStopStrokes l rq) := by
  refine KeepsSends.of_traffic fun s => ?_
  unfold handleStopStrokes
  dsimp only
  split
  · simp
  · rw [State.traffic_onStrokes, State.traffic_onStrokes]
theorem keepsSends_setStrokeTiming (l : LaneId) (rq : Request) : KeepsSends (handleSetStrokeTiming l rq) :=
  KeepsSends.of_traffic fun s => by simp [handleSetStrokeTiming]
theorem keepsSends_setLamp (l : LaneId) (rq : Request) : KeepsSends (handleSetLamp l rq) := by
  refine KeepsSends.of_traffic fun s => ?_
  unfold handleSetLamp
  split
  · simp
  · rw [State.traffic_goodLane, State.traffic_onLane_same _ _ _ rfl]
theorem keepsSends_keepPhone (l : LaneId) (rq : Request) : KeepsSends (handleKeepPhone l rq) := by
  refine KeepsSends.of_traffic fun s => ?_
  unfold handleKeepPhone
  dsimp only
  split_ifs
  · simp
  · simp
  · rw [State.traffic_goodLane, State.traffic_onLane_same _ _ _ rfl]

/-! Lane scope: requests on the sends and the link. -/

/-- R67: a SEND_PACKET joins the queue where the link is UP and fewer than 16 records wait. -/
theorem keepsSends_sendPacket (l : LaneId) (rq : Request) : KeepsSends (handleSendPacket l rq) := by
  intro s h
  unfold handleSendPacket
  dsimp only
  split_ifs with _ hu hr
  · exact h.refuseLane _ l rq
  · exact h.refuseLane _ l rq
  · exact h.refuseLane _ l rq
  · have hu : (s.lane l).link.state = .up := not_not.1 hu
    simp only [State.acceptsSend, Config.sendQueueMax, Bool.not_eq_false, Bool.and_eq_true, decide_eq_true_eq] at hr
    refine State.sendsSound.onLane (s := s.takeDown _) h l ⟨?_, fun hn => absurd hn (by simp [LaneState.traffic, hu])⟩
    have hlt : (s.lane l).send.queue.length < 16 := of_decide_eq_true hr.1
    simp only [LaneState.traffic, State.lane_takeDown, List.length_append, List.length_singleton]
    omega
theorem keepsSends_flushLane (l : LaneId) (rq : Request) : KeepsSends (handleFlushLane l rq) := by
  intro s h
  unfold handleFlushLane
  dsimp only
  split
  · exact (h.flushDown l).goodLane _ l rq
  · exact (h.of_traffic (s.traffic_discardUpstream l)).goodLane _ l rq
  · exact ((h.flushDown l).of_traffic (State.traffic_discardUpstream _ l)).goodLane _ l rq
  · exact h.refuseLane _ l rq
theorem keepsSends_laneReset (l : LaneId) (rq : Request) : KeepsSends (handleLaneReset l rq) := fun _ h =>
  (((h.resetSends l).linkLaneReset l).of_traffic (State.traffic_resetFixture _ l)).goodLane _ l rq
theorem keepsSends_linkReset (l : LaneId) (rq : Request) : KeepsSends (handleLinkReset l rq) := by
  intro s h
  unfold handleLinkReset
  split
  · exact h.refuseLane _ l rq
  · exact h.refuseLane _ l rq
  · exact (h.linkReattach l).goodLane _ l rq
theorem keepsSends_setLink (l : LaneId) (rq : Request) : KeepsSends (handleSetLink l rq) := by
  intro s h
  unfold handleSetLink
  dsimp only
  split_ifs
  · exact h.refuseLane _ l rq
  · exact (h.linkOff l).goodLane _ l rq
  · exact (h.linkOn l).goodLane _ l rq

/-- A handling that answers and changes nothing else. -/
theorem keepsSends_answer (rq : Request) (st : Status) (body : State → List Byte) :
    KeepsSends fun s => s.answer rq st (body s) := KeepsSends.of_traffic fun _ => rfl

/-- Every request command is the arrival of a frame whose handling keeps the sends sound. -/
theorem exec_request_keepsSends {i : Instr} {rq : Request} (h : requestOf i = some rq) :
    ∃ handle, KeepsSends (handle rq) ∧ ∀ s, exec i s = .next (arrive rq handle s) := by
  cases i with
  | unknownRequest o lane code tag body =>
    simp only [requestOf] at h
    split at h
    · cases h
    · next hn =>
      cases h
      refine ⟨fun r t => t.refuseForm .unknownRequest r, KeepsSends.of_traffic (State.traffic_refuseForm _ _), fun s => ?_⟩
      simp only [exec, execUnknownRequest, if_neg hn]
  | deviceStatus o lane tag body =>
    cases h; exact ⟨_, .deviceRequest (fun rq => keepsSends_answer rq _ _) _ _, fun _ => rfl⟩
  | deviceReset o lane tag body => cases h; exact ⟨_, .deviceRequest keepsSends_deviceReset _ _, fun _ => rfl⟩
  | configurePool o lane tag body => cases h; exact ⟨_, .deviceRequest keepsSends_configurePool _ _, fun _ => rfl⟩
  | setClassActions o lane tag body => cases h; exact ⟨_, .deviceRequest keepsSends_setClassActions _ _, fun _ => rfl⟩
  | readClassActions o lane tag body =>
    cases h; exact ⟨_, .deviceRequest (fun rq => keepsSends_answer rq _ _) _ _, fun _ => rfl⟩
  | openNotices o lane tag body => cases h; exact ⟨_, .deviceRequest keepsSends_openNotices _ _, fun _ => rfl⟩
  | closeNotices o lane tag body => cases h; exact ⟨_, .deviceRequest keepsSends_closeNotices _ _, fun _ => rfl⟩
  | setPacing o lane tag body => cases h; exact ⟨_, .deviceRequest keepsSends_setPacing _ _, fun _ => rfl⟩
  | startStrokes o lane tag body => cases h; exact ⟨_, .deviceRequest keepsSends_startStrokes _ _, fun _ => rfl⟩
  | deviceSense o lane tag body => cases h; exact ⟨_, .deviceRequest keepsSends_deviceSense _ _, fun _ => rfl⟩
  | claimLane o lane tag body => cases h; exact ⟨_, .laneRequest keepsSends_claimLane _ _ _, fun _ => rfl⟩
  | yieldLane o lane tag body => cases h; exact ⟨_, .laneRequest keepsSends_yieldLane _ _ _, fun _ => rfl⟩
  | breakClaim o lane tag body => cases h; exact ⟨_, .laneRequest keepsSends_breakClaim _ _ _, fun _ => rfl⟩
  | laneStatus o lane tag body =>
    cases h; exact ⟨_, .laneRequest (fun _ rq => keepsSends_answer rq _ _) _ _ _, fun _ => rfl⟩
  | laneSense o lane tag body => cases h; exact ⟨_, .laneRequest keepsSends_laneSense _ _ _, fun _ => rfl⟩
  | laneIdentity o lane tag body =>
    cases h; exact ⟨_, .laneRequest (fun _ rq => keepsSends_answer rq _ _) _ _ _, fun _ => rfl⟩
  | setLaneOptions o lane tag body => cases h; exact ⟨_, .laneRequest keepsSends_setLaneOptions _ _ _, fun _ => rfl⟩
  | laneReset o lane tag body => cases h; exact ⟨_, .laneRequest keepsSends_laneReset _ _ _, fun _ => rfl⟩
  | sendPacket o lane tag body => cases h; exact ⟨_, .laneRequest keepsSends_sendPacket _ _ _, fun _ => rfl⟩
  | resumeSend o lane tag body => cases h; exact ⟨_, .laneRequest keepsSends_resumeSend _ _ _, fun _ => rfl⟩
  | flushLane o lane tag body => cases h; exact ⟨_, .laneRequest keepsSends_flushLane _ _ _, fun _ => rfl⟩
  | linkReset o lane tag body => cases h; exact ⟨_, .laneRequest keepsSends_linkReset _ _ _, fun _ => rfl⟩
  | setLink o lane tag body => cases h; exact ⟨_, .laneRequest keepsSends_setLink _ _ _, fun _ => rfl⟩
  | supply o lane tag body => cases h; exact ⟨_, .laneRequest keepsSends_supply _ _ _, fun _ => rfl⟩
  | setTrip o lane tag body => cases h; exact ⟨_, .laneRequest keepsSends_setTrip _ _ _, fun _ => rfl⟩
  | armWindow o lane tag body => cases h; exact ⟨_, .laneRequest keepsSends_armWindow _ _ _, fun _ => rfl⟩
  | cancelWindow o lane tag body => cases h; exact ⟨_, .laneRequest keepsSends_cancelWindow _ _ _, fun _ => rfl⟩
  | readWindow o lane tag body =>
    cases h; exact ⟨_, .laneRequest (fun _ rq => keepsSends_answer rq _ _) _ _ _, fun _ => rfl⟩
  | queueStrokes o lane tag body => cases h; exact ⟨_, .laneRequest keepsSends_queueStrokes _ _ _, fun _ => rfl⟩
  | stopStrokes o lane tag body => cases h; exact ⟨_, .laneRequest keepsSends_stopStrokes _ _ _, fun _ => rfl⟩
  | setStrokeTiming o lane tag body => cases h; exact ⟨_, .laneRequest keepsSends_setStrokeTiming _ _ _, fun _ => rfl⟩
  | setLamp o lane tag body => cases h; exact ⟨_, .laneRequest keepsSends_setLamp _ _ _, fun _ => rfl⟩
  | keepPhone o lane tag body => cases h; exact ⟨_, .laneRequest keepsSends_keepPhone _ _ _, fun _ => rfl⟩
  | _ => cases h

/-! ### Commands that are no request -/

/-- A command that keeps the sends sound. -/
def KeepsSendsExec (f : State → Answer) : Prop := ∀ s : State, s.sendsSound → ∃ t, f s = .next t ∧ t.sendsSound

/-- A link on which nothing is under way while it attaches. -/
theorem State.sendsSound.idle_attaching {s : State} (h : s.sendsSound) {l : LaneId} {a : Attach}
    (hs : (s.lane l).link.state = .attaching a) : (s.traffic l).idle := h.idle (by simp [hs])

theorem State.up_advance {s : State} {l : LaneId} (hu : (s.lane l).link.state = .up) (d : Nat) :
    ((s.advance d).lane l).link.state = .up := by
  rw [State.lane_advance]
  show (s.lane l).link.state.pass d = .up
  rw [hu]
  rfl

theorem State.state_advance_attaching {s : State} {l : LaneId} {a : Attach} (hs : (s.lane l).link.state = .attaching a)
    (d : Nat) : ((s.advance d).lane l).link.state = .attaching ⟨a.left - d, a.phase.pass d⟩ := by
  rw [State.lane_advance]
  show (s.lane l).link.state.pass d = _
  rw [hs]
  rfl

/-- An expiry that lets time pass and then leaves the traffic. -/
theorem State.sendsSound.advance_of_traffic {s t : State} (h : s.sendsSound) (d : Nat)
    (e : t.traffic = (s.advance d).traffic) : t.sendsSound := (h.advance d).of_traffic e
theorem State.sendsSound.advance_onLane {s : State} (h : s.sendsSound) (d : Nat) (l : LaneId) {f : LaneState → LaneState}
    (hf : ∀ L, (f L).traffic = L.traffic) : ((s.advance d).onLane l f).sendsSound :=
  h.advance_of_traffic d (State.traffic_onLane_same _ l f (hf _))

/-! Lines and attaches (R25 to R33). -/

theorem keepsSends_lineStateChange (l : LaneId) (shows : Bool) : KeepsSendsExec (execLineStateChange l shows) :=
  fun s h => ⟨_, rfl, h.of_traffic (s.traffic_onLane_same l _ rfl)⟩
theorem keepsSends_connectDetection (l : LaneId) : KeepsSendsExec (execConnectDetection l) := fun s h => ⟨_, rfl, by
  split
  · exact h
  · next left _ =>
    have ht : ((s.advance left).onLane l fun L => L.onLink fun n =>
        { n with connectPresent := true, connectQual := none }).sendsSound := h.advance_onLane left l fun _ => rfl
    exact ht.linkConnect l⟩
theorem keepsSends_disconnectDetection (l : LaneId) : KeepsSendsExec (execDisconnectDetection l) := fun s h => ⟨_, rfl, by
  split
  · exact State.sendsSound.linkDisconnect (h.of_traffic (s.traffic_onLane_same l _ rfl)) l
  · exact h⟩
theorem keepsSends_portResetEnd (l : LaneId) (b : Bool) : KeepsSendsExec (execPortResetEnd l b) := fun s h => ⟨_, rfl, by
  split
  · next left _ =>
    have ht : ((s.advance left).onLane l fun L => L.onLink (Link.resetDone b)).sendsSound :=
      h.advance_onLane left l fun _ => rfl
    exact ht.of_traffic (State.traffic_setPhase ..)
  · exact h⟩
theorem keepsSends_enumerationTransferDone (l : LaneId) (r : EnumResult) :
    KeepsSendsExec (execEnumerationTransferDone l r) := fun s h => ⟨_, rfl, by
  split
  · next stage hs =>
    have ht : (s.onLane l fun L => L.onLink (Link.enumerated stage r)).traffic = s.traffic :=
      s.traffic_onLink l _ (by simp) (by simp) (by simp) (by simp) (by simp)
    have hi := h.idle_attaching hs
    dsimp only
    split
    · exact h
    · exact h.of_traffic (State.traffic_setPhase ..)
    · exact h.of_traffic (by rw [State.traffic_setPhase, ht])
    · exact h.of_traffic (by rw [State.traffic_setPhase, ht])
    · exact (h.of_traffic ht).attachFails (by rw [ht]; exact hi) _
    · exact h
  · exact h⟩
theorem keepsSends_attachRetryExpiry (l : LaneId) : KeepsSendsExec (execAttachRetryExpiry l) := fun s h => ⟨_, rfl, by
  split
  · exact (h.advance _).of_traffic (State.traffic_setPhase ..)
  · exact (h.advance _).of_traffic (State.traffic_setPhase ..)
  · exact h⟩
theorem keepsSends_identityTransactionDone (l : LaneId) (r : IdentityResult) :
    KeepsSendsExec (execIdentityTransactionDone l r) := fun s h => ⟨_, rfl, by
  split
  · next hs =>
    have hi := h.idle_attaching hs
    split
    · exact h.identityRequest hi _
    · exact h.identityRead hi _ _
    · exact h
    · exact h
  · exact h⟩
theorem keepsSends_identityReadTimeout (l : LaneId) : KeepsSendsExec (execIdentityReadTimeout l) := fun s h => ⟨_, rfl, by
  split
  · exact (h.advance _).of_traffic (State.traffic_setPhase ..)
  · exact h⟩
theorem keepsSends_attachTimerExpiry (l : LaneId) : KeepsSendsExec (execAttachTimerExpiry l) := fun s h => ⟨_, rfl, by
  split
  · next a hs =>
    exact (h.advance a.left).attachFails ((h.advance a.left).idle_attaching (State.state_advance_attaching hs _)) _
  · exact h⟩

/-! The engines (R36 to R43). What is under way says that the link is UP. -/

theorem State.sendsSound.up_of_out {s : State} (h : s.sendsSound) {l : LaneId} {e : OutEngine} (ho : (s.lane l).link.out = e)
    (hn : e ≠ .idle) : (s.lane l).link.state = .up := h.up fun hi => hn (ho.symm.trans hi.2.1)
theorem State.sendsSound.up_of_inn {s : State} (h : s.sendsSound) {l : LaneId} {e : InEngine} (ho : (s.lane l).link.inn = e)
    (hn : e ≠ .idle none) : (s.lane l).link.state = .up := h.up fun hi => hn (ho.symm.trans hi.2.2.1)

theorem keepsSends_sendStart (l : LaneId) : KeepsSendsExec (execSendStart l) := fun s h => ⟨_, rfl, by
  split
  · exact h
  · next r rest hq =>
    split
    · next hm =>
      have hu : (s.lane l).link.state = .up := h.up fun hi => by
        have : r :: rest = [] := hq.symm.trans hi.1
        cases this
      have ht : (s.onLane l fun L => { L with send := { L.send with queue := rest } }).sendsSound :=
        h.onLane l ((h.lane l).shorter (by rw [show (s.lane l).traffic.queue = r :: rest from hq]; exact List.suffix_cons r rest)
          rfl id rfl rfl rfl)
      exact ht.setOut (by rw [State.lane_onLane_self]; exact hu) _
    · exact h⟩
theorem keepsSends_outTransactionDone (l : LaneId) (r : OutResult) : KeepsSendsExec (execOutTransactionDone l r) :=
  fun s h => ⟨_, rfl, by
  split
  · next f left ho =>
    have hu := h.up_of_out ho (by simp)
    have hz : (s.zeroErrors l).sendsSound := h.of_traffic (s.traffic_zeroErrors l)
    have huz : ((s.zeroErrors l).lane l).link.state = .up := State.up_of_traffic (s.traffic_zeroErrors l) hu
    cases r with
    | accepted =>
      have ht : ((s.zeroErrors l).tookOut l).sendsSound := hz.of_traffic (State.traffic_tookOut _ l)
      dsimp only
      split
      · exact ht.sendSucceeds f l
      · exact ht.setOut (State.up_of_traffic (State.traffic_tookOut _ l) huz) _
    | nak => exact hz.setOut huz _
    | stall =>
      refine (hz.sendRefused _ f l).needClearing ?_ _
      have he := (s.zeroErrors l).up_sendRefused .sendStalled f l
      simpa [State.traffic, LaneState.traffic, huz] using he
    | transportError =>
      refine h.transportError 0 l fun t ht e => ?_
      split
      · exact ht.linkFault 0 l
      · exact ht.setOut (State.up_of_traffic e hu) _
  · exact h
  · exact h⟩
theorem keepsSends_sendTimerExpiry (l : LaneId) : KeepsSendsExec (execSendTimerExpiry l) := fun s h => ⟨_, rfl, by
  split
  · next f left ho =>
    split
    · exact (h.advance left).sendRefused _ f l
    · exact (h.advance left).setOut (State.up_advance (h.up_of_out ho (by simp)) left) _
  · exact h
  · exact h⟩
theorem keepsSends_retryWaitEnd (l : LaneId) : KeepsSendsExec (execRetryWaitEnd l) := fun s h => ⟨_, rfl, by
  split
  · next f left ho => exact (h.advance left).setOut (State.up_advance (h.up_of_out ho (by simp)) left) _
  · exact h
  · exact h⟩
theorem keepsSends_stallClearingDone (l : LaneId) (r : ClearResult) : KeepsSendsExec (execStallClearingDone l r) :=
  fun s h => ⟨_, rfl, by
  split
  · next e rest hc _ =>
    have hu : (s.lane l).link.state = .up := h.up fun hi => by
      have : e :: rest = [] := hc.symm.trans hi.2.2.2.1
      cases this
    have hd : ((s.zeroErrors l).onLane l fun L => L.onLink (Link.clearingEnds e rest)).sendsSound :=
      State.sendsSound.onLink_up (h.of_traffic (s.traffic_zeroErrors l))
        (State.up_of_traffic (s.traffic_zeroErrors l) hu) (Link.clearingEnds_state _ e rest)
    cases r with
    | cleared => exact hd
    | stall => exact hd
    | nak => exact h
    | transportError => exact h.transportError _ l fun t ht he => ht.onLink_up (State.up_of_traffic he hu) rfl
  · exact h⟩
/-- R40: the end of a wait starts nothing. -/
theorem LaneState.clearRetry_sound (L : LaneState) (h : L.traffic.sound) :
    (L.onLink fun n => { n with clearRetry := none }).traffic.sound := by
  refine ⟨h.1, fun hn => ?_⟩
  obtain ⟨hq, ho, hi, hc, -⟩ := h.2 hn
  exact ⟨hq, ho, hi, hc, rfl⟩
theorem keepsSends_stallClearingRetry (l : LaneId) : KeepsSendsExec (execStallClearingRetry l) := fun s h => ⟨_, rfl, by
  split
  · next left _ =>
    exact (h.advance left).onLane l (LaneState.clearRetry_sound _ ((h.advance left).lane l))
  · exact h⟩
theorem keepsSends_pollIssue (l : LaneId) : KeepsSendsExec (execPollIssue l) := fun s h => ⟨_, rfl, by
  split
  · next p hi => exact h.recheckPoll l fun hp => h.up_of_inn hi (by simpa using hp)
  · exact h
  · exact h⟩
theorem keepsSends_inTransactionDone (l : LaneId) (r : InResult) : KeepsSendsExec (execInTransactionDone l r) :=
  fun s h => ⟨_, rfl, by
  split
  · next p hp =>
    have hu : (s.lane l).link.state = .up := h.up fun hi => by
      rw [show (s.lane l).link.inn = .idle none from hi.2.2.1] at hp
      cases hp
    have hz : (s.zeroErrors l).sendsSound := h.of_traffic (s.traffic_zeroErrors l)
    have huz : ((s.zeroErrors l).lane l).link.state = .up := State.up_of_traffic (s.traffic_zeroErrors l) hu
    cases r with
    | data toggle bytes =>
      have ht : ((s.zeroErrors l).tookIn l).sendsSound := hz.of_traffic (State.traffic_tookIn _ l)
      have hut := State.up_of_traffic (State.traffic_tookIn _ l) huz
      dsimp only
      split
      · exact h.pollError hu _
      · exact hz
      · exact ht.setIn hut _
      · exact ht.packetEnds hut _ _
    | nak =>
      dsimp only
      split
      · exact hz.setIn huz _
      · exact hz
    | stall =>
      have hr := State.traffic_recordAsync (s.zeroErrors l) .pollStalled l
      exact State.sendsSound.needClearing ((hz.of_traffic hr).setIn (State.up_of_traffic hr huz) _)
        (by rw [State.setIn, State.lane_onLane_self]; exact State.up_of_traffic hr huz) _
    | transportError => exact h.pollError hu _
  · exact h⟩
theorem keepsSends_pollNakTimeout (l : LaneId) : KeepsSendsExec (execPollNakTimeout l) := fun s h => ⟨_, rfl, by
  split
  · next left hp =>
    have hu : (s.lane l).link.state = .up := h.up fun hi => by
      rw [show (s.lane l).link.inn = .idle none from hi.2.2.1] at hp
      cases hp
    exact (h.advance left).transportError 1 l fun t ht e => ht.setIn (State.up_of_traffic e (State.up_advance hu left)) _
  · exact h
  · exact h⟩
theorem keepsSends_pollWaitEnd (l : LaneId) : KeepsSendsExec (execPollWaitEnd l) := fun s h => ⟨_, rfl, by
  split
  · next left p hi =>
    exact (h.advance left).recheckPoll l fun _ => State.up_advance (h.up_of_inn hi (by simp)) left
  · next left hi =>
    split
    · exact h
    · exact (h.advance left).recheckPoll l fun hn => absurd rfl hn
  · exact h
  · exact h⟩

/-! The collector, the fixture and the arbiter. -/

theorem keepsSends_packTimerExpiry (l : LaneId) : KeepsSendsExec (execPackTimerExpiry l) := fun s h => ⟨_, rfl, by
  split
  · exact h.advance_of_traffic _ (State.traffic_onUpstream ..)
  · exact h⟩
theorem keepsSends_sampleEvent (l : LaneId) (v : Fin 4096) : KeepsSendsExec (execSampleEvent l v) := fun s h => ⟨_, rfl, by
  split
  · exact h.advance_of_traffic _ (by dsimp only; rw [State.traffic_onSupply, State.traffic_sample])
  · exact h⟩
theorem keepsSends_startInstant (l : LaneId) : KeepsSendsExec (execStartInstant l) := fun s h => ⟨_, rfl, by
  split
  · exact h.advance_of_traffic _ (State.traffic_startStep ..)
  · exact h⟩
theorem keepsSends_stepEnd (l : LaneId) : KeepsSendsExec (execStepEnd l) := fun s h => ⟨_, rfl, by
  split
  · exact h.advance_of_traffic _ (State.traffic_afterStep ..)
  · exact h⟩
theorem keepsSends_releaseGapEnd (l : LaneId) : KeepsSendsExec (execReleaseGapEnd l) := fun s h => ⟨_, rfl, by
  split
  · exact h.advance_of_traffic _ (State.traffic_startStep ..)
  · exact h⟩
theorem keepsSends_retractEnd (l : LaneId) : KeepsSendsExec (execRetractEnd l) := fun s h => ⟨_, rfl, by
  split
  · exact h.advance_of_traffic _ (by rw [State.traffic_answerStops, State.traffic_onStrokes])
  · exact h⟩
theorem keepsSends_nestInputChange (l : LaneId) (b : Bool) : KeepsSendsExec (execNestInputChange l b) :=
  fun s h => ⟨_, rfl, h.of_traffic (s.traffic_onLane_same l _ rfl)⟩
theorem keepsSends_nestQualificationEnd (l : LaneId) : KeepsSendsExec (execNestQualificationEnd l) := fun s h => ⟨_, rfl, by
  split
  · next left _ =>
    have ht : ((s.advance left).onLane l fun L => { L with nest := { L.nest with seated := L.nest.raw, qual := none } }).sendsSound :=
      h.advance_onLane left l fun _ => rfl
    dsimp only
    split
    · exact ht.nestSeated l
    · exact ht.nestEmptied l
  · exact h⟩
theorem keepsSends_activityTimerExpiry (l : LaneId) : KeepsSendsExec (execActivityTimerExpiry l) := fun s h => ⟨_, rfl, by
  split
  · exact h.advance_onLane _ l fun _ => rfl
  · exact h⟩
theorem keepsSends_pacingTimerExpiry (o : Originator) : KeepsSendsExec (execPacingTimerExpiry o) := fun s h => ⟨_, rfl, by
  split
  · exact h.advance_of_traffic _ (State.traffic_onOriginator ..)
  · exact h⟩
theorem keepsSends_frameBuild : KeepsSendsExec execFrameBuild := fun s h => ⟨_, rfl, by
  split
  · split
    · next hb => exact h.of_traffic (by rw [State.traffic_placeFrame, State.traffic_buildFrame hb])
    · exact h
  · exact h⟩

/-! Resets and the port. -/

/-- R48, R66: nothing is under way after a device reset. -/
theorem State.sendsSound_deviceReset (s : State) (running : Bool) : (s.deviceReset running).sendsSound := fun l => by
  rw [State.lane_deviceReset, LaneState.sendsSound_iff]
  exact Traffic.sound_of_idle ⟨rfl, rfl, rfl, rfl, rfl⟩
theorem State.traffic_stationLinkReset (s : State) : s.stationLinkReset.traffic = s.traffic := by
  funext l
  rw [State.traffic, State.lane_stationLinkReset]
  exact LaneState.traffic_returned _ _
theorem State.sendsSound.leaveConfigured {s : State} (h : s.sendsSound) (p : PortState) : (s.leaveConfigured p).sendsSound := by
  unfold State.leaveConfigured
  dsimp only
  split
  · exact State.sendsSound_deviceReset _ _
  · exact h.of_traffic (State.traffic_stationLinkReset _)
theorem State.sendsSound.transferred {s : State} (h : s.sendsSound) (f : Frame) : (s.transferred f).sendsSound := by
  unfold State.transferred
  split
  · split
    · exact State.sendsSound_deviceReset _ _
    · exact h
  · exact h
  · exact h.of_traffic (State.traffic_releaseUp ..)

theorem keepsSends_inTransferDone : KeepsSendsExec execInTransferDone := fun s h => ⟨_, rfl, by
  split
  · split
    · exact State.sendsSound.transferred (s := { s with transmitting := s.staged, staged := none }) h _
    · exact h
  · exact h⟩
theorem keepsSends_setConfiguration : KeepsSendsExec execSetConfiguration := fun s h => ⟨_, rfl, by
  split
  · exact h
  · exact h⟩
theorem keepsSends_deconfigure : KeepsSendsExec execDeconfigure := fun s h => ⟨_, rfl, by
  split
  · exact h.leaveConfigured _
  · exact h⟩
theorem keepsSends_busReset : KeepsSendsExec execBusReset := fun s h => ⟨_, rfl, by
  split
  · exact h
  · exact h
  · exact State.sendsSound.leaveConfigured (s := { s with suspended := false }) h _⟩
theorem keepsSends_vbusLoss : KeepsSendsExec execVbusLoss := fun s h => ⟨_, rfl, by
  dsimp only
  split
  · exact h
  · exact h
  · exact State.sendsSound.leaveConfigured (s := { s with vbus := false, suspended := false }) h _⟩
theorem keepsSends_vbusPresent : KeepsSendsExec execVbusPresent := fun s h => ⟨_, rfl, by
  split
  · exact h
  · exact h⟩
theorem keepsSends_suspend : KeepsSendsExec execSuspend := fun s h => ⟨_, rfl, by
  split
  · exact h
  · exact h⟩
theorem keepsSends_hardReset : KeepsSendsExec execHardReset := fun _ _ => ⟨_, rfl, State.sendsSound_deviceReset _ _⟩
theorem keepsSends_hardResetRelease : KeepsSendsExec execHardResetRelease := fun s h => ⟨_, rfl, by
  split
  · exact State.sendsSound_deviceReset _ _
  · exact h⟩
theorem keepsSends_outDataPacket (bytes : List Byte) : KeepsSendsExec (execOutDataPacket bytes) := fun s h => ⟨_, rfl, by
  split
  · exact h
  · exact h⟩
theorem keepsSends_frameDiscarded (bytes : List Byte) : KeepsSendsExec (execFrameDiscarded bytes) := fun s h => ⟨_, rfl, by
  extract_lets t
  have ht : t.sendsSound := by
    unfold t
    split_ifs
    · exact h
    · exact h
    · exact h
  split
  · exact ht
  · exact h⟩

/-! ### Every command -/

theorem exec_sendsSound (i : Instr) : KeepsSendsExec (exec i) := by
  cases hq : requestOf i with
  | some rq =>
    obtain ⟨handle, hk, he⟩ := exec_request_keepsSends hq
    exact fun s h => ⟨_, he s, arrive_sendsSound hk h⟩
  | none =>
    cases i with
    | frameDiscarded bytes => exact keepsSends_frameDiscarded bytes
    | unknownRequest o lane code tag body =>
      simp only [requestOf] at hq
      split at hq
      · next hn => exact fun s h => ⟨s, by simp only [exec, execUnknownRequest, if_pos hn], h⟩
      · cases hq
    | outResume => exact fun s h => ⟨_, rfl, h⟩
    | setConfiguration => exact keepsSends_setConfiguration
    | deconfigure => exact keepsSends_deconfigure
    | busReset => exact keepsSends_busReset
    | vbusLoss => exact keepsSends_vbusLoss
    | vbusPresent => exact keepsSends_vbusPresent
    | suspend => exact keepsSends_suspend
    | resume => exact fun s h => ⟨_, rfl, h⟩
    | hardReset => exact keepsSends_hardReset
    | frameBuild => exact keepsSends_frameBuild
    | inTransferDone => exact keepsSends_inTransferDone
    | pacingTimerExpiry o => exact keepsSends_pacingTimerExpiry o
    | lineStateChange l shows => exact keepsSends_lineStateChange l shows
    | connectDetection l => exact keepsSends_connectDetection l
    | disconnectDetection l => exact keepsSends_disconnectDetection l
    | portResetEnd l b => exact keepsSends_portResetEnd l b
    | enumerationTransferDone l r => exact keepsSends_enumerationTransferDone l r
    | attachRetryExpiry l => exact keepsSends_attachRetryExpiry l
    | identityTransactionDone l r => exact keepsSends_identityTransactionDone l r
    | identityReadTimeout l => exact keepsSends_identityReadTimeout l
    | attachTimerExpiry l => exact keepsSends_attachTimerExpiry l
    | sendStart l => exact keepsSends_sendStart l
    | outTransactionDone l r => exact keepsSends_outTransactionDone l r
    | sendTimerExpiry l => exact keepsSends_sendTimerExpiry l
    | retryWaitEnd l => exact keepsSends_retryWaitEnd l
    | stallClearingDone l r => exact keepsSends_stallClearingDone l r
    | stallClearingRetry l => exact keepsSends_stallClearingRetry l
    | pollIssue l => exact keepsSends_pollIssue l
    | inTransactionDone l r => exact keepsSends_inTransactionDone l r
    | pollNakTimeout l => exact keepsSends_pollNakTimeout l
    | pollWaitEnd l => exact keepsSends_pollWaitEnd l
    | packTimerExpiry l => exact keepsSends_packTimerExpiry l
    | sampleEvent l v => exact keepsSends_sampleEvent l v
    | startInstant l => exact keepsSends_startInstant l
    | stepEnd l => exact keepsSends_stepEnd l
    | releaseGapEnd l => exact keepsSends_releaseGapEnd l
    | retractEnd l => exact keepsSends_retractEnd l
    | nestInputChange l b => exact keepsSends_nestInputChange l b
    | nestQualificationEnd l => exact keepsSends_nestQualificationEnd l
    | activityTimerExpiry l => exact keepsSends_activityTimerExpiry l
    | hardResetRelease => exact keepsSends_hardResetRelease
    | outDataPacket bytes => exact keepsSends_outDataPacket bytes
    | _ => cases hq

/-- Settles O56: the front command keeps every lane's sends sound, and so does an idle step. -/
theorem sendQueuesStaySound : Obligations.SendQueuesStaySound := by
  intro s t h ht
  unfold step at ht
  split at ht
  · obtain rfl := Host.Outcome.next.inj ht
    unfold State.idle
    split
    · exact h
    · exact State.sendsSound.advance h 1
  · next c rest _ =>
    obtain ⟨u, hu, hs⟩ := exec_sendsSound c { s with pending := rest } h
    obtain rfl := Host.Outcome.next.inj (hu.symm.trans ht)
    exact hs

end Sys2Proof.Machine
end

section
/-! The end of a send with CHECK (R35, R52, R70 to R74, R77, R80), in one closed form for every cause: the replies, the cells and
the senders' records of any number of sends. Then the link states that a lane enters, and the attach's two ends (R28 to R33,
R35, R37). -/

namespace Sys2Proof.Machine

/-! ### Sends that are answered CHECK -/

/-- Sends that are answered CHECK in order, each with a condition of its own. -/
def State.checkSends (l : LaneId) (xs : List (SendRecord × Cond)) (s : State) : State :=
  xs.foldl (fun t x => t.endSendCheck x.2 l x.1) s

/-- R35, R77, R80: a cancellation gives every send the same condition. -/
theorem State.cancelSends_eq_checkSends (c : Cond) (l : LaneId) (rs : List SendRecord) (s : State) :
    s.cancelSends c l rs = s.checkSends l (rs.map fun r => (r, c)) := by
  rw [State.checkSends, List.foldl_map]
  rfl

/-- R74: a broken chain gives each of its records its position. -/
theorem State.cancelChain_eq_checkSends (l : LaneId) (rs : List SendRecord) (k : Nat) (s : State) :
    s.cancelChain l (k + 1) rs = s.checkSends l ((rs.zipIdx k).map fun x => (x.1, .chainBroken (x.2 + 1))) := by
  induction rs generalizing k s with
  | nil => rfl
  | cons r rs ih => exact ih (k + 1) _

/-- R119: the conditions of some sends are recorded for their senders, in order. -/
def LaneState.recordSends (now : Stamp) (xs : List (SendRecord × Cond)) (L : LaneState) : LaneState :=
  xs.foldl (fun K x => K.onSense x.1.sender (Sense.record x.2 now (some K.link.epoch))) L

/-- Recording changes the sense records alone. -/
theorem LaneState.recordSends_frame (now : Stamp) (xs : List (SendRecord × Cond)) (L : LaneState) :
    { L.recordSends now xs with sense := L.sense } = L := by
  have h : ∀ (M : LaneState), { M.recordSends now xs with sense := L.sense } = { M with sense := L.sense } := by
    induction xs with
    | nil => exact fun _ => rfl
    | cons x xs ih => exact fun M => ih _
  exact h L

/-- Each originator's record takes the conditions of its own sends. -/
theorem LaneState.recordSends_sense (now : Stamp) (xs : List (SendRecord × Cond)) (L : LaneState) (p : Originator) :
    (L.recordSends now xs).sense[p] = (xs.filter fun x => x.1.sender = p).foldl
      (fun r x => r.record x.2 now (some L.link.epoch)) L.sense[p] := by
  induction xs generalizing L with
  | nil => rfl
  | cons x xs ih =>
    refine (ih _).trans ?_
    by_cases hp : x.1.sender = p
    · subst hp; simp
    · simp [hp]

/-- Replies become READY in order, and cells are released. -/
def State.withAnswers (replies : List Reply) (cells : Nat) (s : State) : State :=
  { s with ready := s.ready ++ replies, downHeld := s.downHeld - cells }

theorem State.withAnswers_setLane (s : State) (replies : List Reply) (cells : Nat) (l : LaneId) (v : LaneState) :
    (s.setLane l v).withAnswers replies cells = (s.withAnswers replies cells).setLane l v := rfl

theorem State.withAnswers_cons (s : State) (r : Reply) (replies : List Reply) (n cells : Nat) :
    ((s.releaseDown n).pushReply r).withAnswers replies cells = s.withAnswers (r :: replies) (n + cells) := by
  simp only [State.withAnswers, State.releaseDown, State.pushReply, List.append_assoc, List.singleton_append, Nat.sub_sub]

/-- The whole effect of sends that are answered CHECK. -/
theorem State.checkSends_eq (l : LaneId) (xs : List (SendRecord × Cond)) (s : State) :
    s.checkSends l xs =
      (s.withAnswers (xs.map fun x => x.1.reply l .check (shortSense x.2)) (xs.map fun x => x.1.cells).sum).setLane l
        ((s.lane l).recordSends s.timebase xs) := by
  induction xs generalizing s with
  | nil =>
    simp only [State.withAnswers, List.map_nil, List.append_nil, List.sum_nil, Nat.sub_zero]
    exact (s.setLane_lane l).symm
  | cons x xs ih =>
    have hx : s.endSendCheck x.2 l x.1 = ((s.releaseDown x.1.cells).pushReply (x.1.reply l .check (shortSense x.2))).setLane l
        ((s.lane l).onSense x.1.sender (Sense.record x.2 s.timebase (some (s.lane l).link.epoch))) := by
      rw [← State.endSendCheck_setLane, State.setLane_lane]
    have ht : s.checkSends l (x :: xs) = (s.endSendCheck x.2 l x.1).checkSends l xs := rfl
    rw [ht, ih, hx, State.lane_setLane_self, State.withAnswers_setLane, State.setLane_setLane, State.withAnswers_cons]
    rfl

/-! What the sends of one cancellation leave in their senders' records. -/

theorem LaneState.recordSends_sense_map (now : Stamp) (c : Cond) (rs : List SendRecord) (L : LaneState) (p : Originator) :
    (L.recordSends now (rs.map fun r => (r, c))).sense[p] =
      (rs.filter fun r => r.sender = p).foldl (fun r _ => r.record c now (some L.link.epoch)) L.sense[p] := by
  rw [LaneState.recordSends_sense, List.filter_map, List.foldl_map]
  rfl

/-- What is observed of sends that are answered CHECK. -/
theorem State.checkSends_spec (l : LaneId) (xs : List (SendRecord × Cond)) (s : State) :
    { s.checkSends l xs with lanes := s.lanes, ready := s.ready, downHeld := s.downHeld } = s ∧
      (s.checkSends l xs).ready = s.ready ++ (xs.map fun x => x.1.reply l .check (shortSense x.2)) ∧
      (s.checkSends l xs).downHeld = s.downHeld - (xs.map fun x => x.1.cells).sum ∧
      (∀ k, k ≠ l → (s.checkSends l xs).lane k = s.lane k) ∧
      (s.checkSends l xs).lane l = (s.lane l).recordSends s.timebase xs := by
  rw [State.checkSends_eq]
  exact ⟨rfl, rfl, rfl, fun k hk => State.lane_setLane_ne _ _ (Ne.symm hk), State.lane_setLane_self _ _ _⟩

/-! ### Chains -/

/-- R74: a chain that is never closed is the whole queue. -/
theorem splitChain_linked (rs : List SendRecord) (h : ∀ r ∈ rs, r.chain = true) : splitChain rs = (rs, []) := by
  induction rs with
  | nil => rfl
  | cons r rs ih =>
    rw [splitChain, if_pos (h r (List.mem_cons_self ..)), ih fun q hq => h q (List.mem_cons_of_mem _ hq)]

/-- R74: the first record with CHAIN clear closes the chain, and is one of it. -/
theorem splitChain_closed (linked : List SendRecord) (last : SendRecord) (rest : List SendRecord)
    (h : ∀ r ∈ linked, r.chain = true) (hl : last.chain = false) :
    splitChain (linked ++ [last] ++ rest) = (linked ++ [last], rest) := by
  induction linked with
  | nil => simp [splitChain, hl]
  | cons r rs ih =>
    have := ih fun q hq => h q (List.mem_cons_of_mem _ hq)
    simp only [List.cons_append, splitChain, if_pos (h r (List.mem_cons_self ..)), this]

/-- R70, R73, R74: a refused send whose chain is known. -/
theorem State.sendRefused_eq (s : State) (l : LaneId) (f : Flight) (cond : Nat → Cond) (chain rest : List SendRecord)
    (h : (if f.record.chain then splitChain (s.lane l).send.queue else ([], (s.lane l).send.queue)) = (chain, rest)) :
    s.sendRefused cond f l =
      ((((s.offerLane .sendHalted l).onLane l fun L =>
          { L with link := { L.link with out := .idle }, send := ⟨rest, true⟩ }).releaseDown f.record.cells).checkReply
        (cond chain.length) 0x20 f.record.tag f.record.sender l).cancelChain l 1 chain := by
  simp only [State.sendRefused, h]
  congr 1
  rw [State.onLane_eq_setLane, State.offerLane_setLane]
  · rfl
  · rfl

/-- Settles O32: both cancellations are `checkSends`, and a refused send's chain is what `splitChain` cuts off. -/
theorem cancelledSendsAreAnswered : Obligations.CancelledSendsAreAnswered := by
  refine ⟨fun s c l rs => ⟨?_, ?_⟩, fun s l f cond chain rest hq hc => State.sendRefused_eq _ _ _ _ _ _ ?_⟩
  · obtain ⟨hf, hr, hd, hk, hl⟩ := s.checkSends_spec l (rs.map fun r => (r, c))
    rw [List.map_map] at hr hd
    rw [State.cancelSends_eq_checkSends]
    exact ⟨_, rfl, hf, hr, hd, hk, by rw [hl]; exact LaneState.recordSends_frame _ _ _,
      fun p => by rw [hl]; exact LaneState.recordSends_sense_map _ _ _ _ _⟩
  · obtain ⟨hf, hr, hd, hk, hl⟩ := s.checkSends_spec l (rs.zipIdx.map fun x => (x.1, .chainBroken (x.2 + 1)))
    rw [List.map_map] at hr hd
    rw [State.cancelChain_eq_checkSends l rs 0]
    refine ⟨_, rfl, hf, ?_, ?_, hk, by rw [hl]; exact LaneState.recordSends_frame _ _ _, fun p => ?_⟩
    · rw [hr, List.mapIdx_eq_zipIdx_map]
      rfl
    · have hz : rs.zipIdx.map (SendRecord.cells ∘ Prod.fst) = rs.map SendRecord.cells := by
        rw [← List.map_map, List.zipIdx_map_fst]
      rw [hd, ← hz]
      rfl
    · rw [hl, LaneState.recordSends_sense, List.filter_map, List.foldl_map]
      rfl
  · rw [hq]
    rcases hc with ⟨hch, rfl⟩ | ⟨hch, ⟨rfl, hall⟩ | ⟨linked, last, rfl, hall, hlast⟩⟩
    · simp [hch]
    · simp [hch, splitChain_linked chain hall]
    · rw [if_pos hch, splitChain_closed linked last rest hall hlast]

/-! ### Leaving UP, and the states that a link enters -/

/-- A lane whose sends are all dropped and whose link is quiet. -/
def LaneState.dropped (L : LaneState) : LaneState := { L with link := L.link.quiet, send := { L.send with queue := [] } }

theorem LaneState.recordSends_claim (now : Stamp) (xs : List (SendRecord × Cond)) (L : LaneState) :
    (L.recordSends now xs).claim = L.claim := by rw [← congrArg LaneState.claim (L.recordSends_frame now xs)]

theorem State.offerLane_withAnswers (s : State) (replies : List Reply) (cells : Nat) (k : EventKind) (l : LaneId) :
    (s.withAnswers replies cells).offerLane k l = (s.offerLane k l).withAnswers replies cells := rfl

/-- R35: the whole effect of leaving UP. -/
theorem State.leaveUp_eq (s : State) (l : LaneId) :
    s.leaveUp l =
      ((s.offerLane .linkDown l).withAnswers ((s.lane l).sends.map fun r => r.reply l .check (shortSense .linkLost))
        ((s.lane l).sends.map SendRecord.cells).sum).setLane l
        ((s.lane l).dropped.recordSends s.timebase ((s.lane l).sends.map fun r => (r, .linkLost))) := by
  have hd : s.leaveUp l = ((s.setLane l (s.lane l).dropped).cancelSends .linkLost l (s.lane l).sends).offerLane .linkDown l := rfl
  rw [hd, State.cancelSends_eq_checkSends, State.checkSends_eq, State.lane_setLane_self, State.withAnswers_setLane,
    State.setLane_setLane, List.map_map, List.map_map, State.offerLane_setLane]
  · rfl
  · rw [LaneState.recordSends_claim]
    rfl

/-! The states that a link enters (R28, R29). -/

theorem State.setLinkState_eq (s : State) (l : LaneId) (k : LinkState) (hk : k.code ≠ 3) :
    s.setLinkState k l = s.linkEnters l k := by
  simp only [State.setLinkState, State.linkEnters, LaneState.onLink, if_neg hk]

theorem State.enterAttaching_eq (s : State) (l : LaneId) : s.enterAttaching l =
    s.linkEnters l (.attaching ⟨(s.lane l).options.attachLimit * 1000, .resetting 50000⟩) := by
  simp only [State.enterAttaching, State.linkEnters, State.onLane_eq_setLane, LaneState.onLink, Config.portResetUs,
    LinkState.code, if_true]

/-- R28: WAITING, or ATTACHING where a device is present. -/
theorem State.enterWaiting_eq (s : State) (l : LaneId) : s.enterWaiting l = s.linkEnters l (s.lane l).connected := by
  unfold State.enterWaiting LaneState.connected
  split
  · exact s.enterAttaching_eq l
  · exact s.setLinkState_eq l .waiting (by decide)

theorem LaneState.recordSends_options (now : Stamp) (xs : List (SendRecord × Cond)) (L : LaneState) :
    (L.recordSends now xs).options = L.options := by rw [← congrArg LaneState.options (L.recordSends_frame now xs)]
theorem LaneState.recordSends_link (now : Stamp) (xs : List (SendRecord × Cond)) (L : LaneState) :
    (L.recordSends now xs).link = L.link := by rw [← congrArg LaneState.link (L.recordSends_frame now xs)]

@[simp] theorem State.options_leaveUp (s : State) (l : LaneId) : ((s.leaveUp l).lane l).options = (s.lane l).options := by
  rw [State.leaveUp_eq, State.lane_setLane_self, LaneState.recordSends_options]
  rfl
@[simp] theorem State.link_leaveUp (s : State) (l : LaneId) : ((s.leaveUp l).lane l).link = (s.lane l).link.quiet := by
  rw [State.leaveUp_eq, State.lane_setLane_self, LaneState.recordSends_link]
  rfl

/-- R35: whether a device is present, and how long an attach may last, outlive the link. -/
theorem State.connected_leaveUp (s : State) (l : LaneId) : ((s.leaveUp l).lane l).connected = (s.lane l).connected := by
  simp [LaneState.connected]

/-- R37: a link fault leaves UP and attaches afresh, with the condition recorded first. -/
theorem State.linkFault_eq (s : State) (engine : Nat) (l : LaneId) : s.linkFault engine l =
    ((s.recordAsync (.transportErrors engine) l).leaveUp l).linkEnters l
      (.attaching ⟨(s.lane l).options.attachLimit * 1000, .resetting 50000⟩) := by
  have ho : ((s.recordAsync (.transportErrors engine) l).lane l).options = (s.lane l).options := by
    cases hc : (s.lane l).claim with
    | none => rw [State.recordAsync_free _ _ _ hc]
    | some c => rw [State.recordAsync_held _ _ _ _ hc, State.recordLane, State.lane_onLane_self, LaneState.onSense_options]
  rw [State.linkFault, State.enterAttaching_eq, State.options_leaveUp, ho]

/-- Settles O44: leaving UP is one change of the lane beside the replies, the cells and the event. -/
theorem leavingUpAnswersEverySend : Obligations.LeavingUpAnswersEverySend := by
  rintro s l L rfl
  refine ⟨⟨_, _, s.leaveUp_eq l, State.lane_setLane_self _ _ _, fun k hk => State.lane_setLane_ne _ _ (Ne.symm hk), rfl, rfl, rfl,
    rfl, ?_, fun p => LaneState.recordSends_sense_map _ _ _ _ p⟩, fun engine => ⟨fun hc => ?_, fun c hc => ?_⟩⟩
  · exact congrArg (fun K : LaneState => { K with sense := (s.lane l).sense })
      ((s.lane l).dropped.recordSends_frame s.timebase ((s.lane l).sends.map fun r => (r, .linkLost)))
  · rw [State.linkFault_eq, State.recordAsync_free _ _ _ hc]
  · rw [State.linkFault_eq, State.recordAsync_held _ _ _ _ hc]

/-! ### The two ends of an attach -/

/-- R32, R138: what a link that comes UP makes of an ARMED window. -/
theorem ActiveWindow.fire_hitsLinkUp (w : ActiveWindow) : w.fire hitsLinkUp =
    match w with
    | .armed p => if p.trigger = .linkUp then p.start else .armed p
    | w => w := by
  cases w with
  | armed p => simp only [ActiveWindow.fire, hitsLinkUp, beq_iff_eq]
  | idle | delaying | measuring | done | aborted => rfl

/-- Settles O43: in each end of an attach the event comes before the other effects as well as among them. -/
theorem attachEnds : Obligations.AttachEnds := by
  refine fun s l => ⟨fun id => ?_, fun reason => ?_, fun a ha => ?_⟩
  · simp only [State.attachSucceeds, State.setAttention, State.onLane_eq_setLane, State.lane_setLane_self, State.setLane_setLane]
    rw [State.offerLane_setLane _ _ _ _ (by rfl)]
    simp only [State.lane_setLane_self, State.setLane_setLane, State.lane_offerLane, LaneState.onLink, LaneState.onUpstream,
      LaneState.onSupply, Supply.fireOn, ActiveWindow.fire_hitsLinkUp]
    rfl
  · have hf : (s.setLinkState .failed l).offerLane .attachFailed l = (s.offerLane .attachFailed l).onLane l fun L =>
        { L with link := { L.link with state := .failed } } := State.offerLane_setLane _ _ _ _ rfl
    have hl : (((s.offerLane .attachFailed l).onLane l fun L => { L with link := { L.link with state := .failed } }).lane l).claim =
        (s.lane l).claim := by rw [State.lane_onLane_self, State.lane_offerLane]
    refine ⟨fun hc => ?_, fun c hc => ?_⟩
    · rw [State.attachFails, hf, State.recordAsync_free _ _ _ (hl.trans hc)]
    · rw [State.attachFails, hf, State.recordAsync_held _ _ _ _ (hl.trans hc)]
  · simp only [exec, execAttachTimerExpiry, ha]

end Sys2Proof.Machine
end

section
/-! The line and the link requests by link state (R25, R27 to R29, R44, R45). -/

namespace Sys2Proof.Machine

/-! ### Connect and disconnect (R25, R27) -/

theorem State.options_advance (s : State) (d : Nat) (l : LaneId) : ((s.advance d).lane l).options = (s.lane l).options := by
  rw [State.lane_advance, LaneState.pass_options]

/-- The passing of time leaves every link state but the timers of an attach. -/
theorem State.state_advance_eq_iff (s : State) (d : Nat) (l : LaneId) {k : LinkState} (hk : ∀ a, k ≠ .attaching a) :
    ((s.advance d).lane l).link.state = k ↔ (s.lane l).link.state = k := by
  rw [State.lane_advance]
  show (s.lane l).link.state.pass d = k ↔ _
  cases hs : (s.lane l).link.state with
  | attaching a => exact iff_of_false (fun h => hk _ h.symm) (fun h => hk _ h.symm)
  | disabled | vacant | waiting | up | failed => exact Iff.rfl

/-- R27: a connect detection acts on a WAITING link alone. -/
theorem State.linkConnect_waiting (s : State) (l : LaneId) (h : (s.lane l).link.state = .waiting) :
    s.linkConnect l = s.enterAttaching l := by simp only [State.linkConnect, h]
theorem State.linkConnect_other (s : State) (l : LaneId) (h : (s.lane l).link.state ≠ .waiting) : s.linkConnect l = s := by
  unfold State.linkConnect
  split
  · next hw => exact absurd hw h
  · rfl

/-- R27: a disconnect detection, by link state. -/
theorem State.linkDisconnect_up (s : State) (l : LaneId) (h : (s.lane l).link.state = .up) :
    s.linkDisconnect l = (s.leaveUp l).enterWaiting l := by simp only [State.linkDisconnect, h]
theorem State.linkDisconnect_attached (s : State) (l : LaneId)
    (h : (s.lane l).link.state.code = 3 ∨ (s.lane l).link.state = .failed) : s.linkDisconnect l = s.enterWaiting l := by
  unfold State.linkDisconnect
  cases hs : (s.lane l).link.state with
  | attaching a => rfl
  | failed => rfl
  | disabled | vacant | waiting | up => simp [hs, LinkState.code] at h
theorem State.linkDisconnect_other (s : State) (l : LaneId) (h : (s.lane l).link.state.code ≤ 2) : s.linkDisconnect l = s := by
  unfold State.linkDisconnect
  cases hs : (s.lane l).link.state with
  | disabled | vacant | waiting => rfl
  | attaching | up | failed => simp [hs, LinkState.code] at h

/-- R28: with no device present, WAITING stays WAITING. -/
theorem LaneState.connected_absent (L : LaneState) (h : L.link.connectPresent = false) : L.connected = .waiting := by
  simp [LaneState.connected, h]

/-- Settles O40: the passing of time up to a connect detection leaves the link state, and each detection is a case of it. -/
theorem connectAndDisconnect : Obligations.ConnectAndDisconnect := by
  refine ⟨fun s l left hq => ?_, fun s l hp => ?_⟩
  · extract_lets present
    have hs : (present.lane l).link.state = ((s.advance left).lane l).link.state := by simp [present]
    have ho : (present.lane l).options = (s.lane l).options := by
      rw [← s.options_advance left l]
      simp [present]
    have he : exec (.connectDetection l) s = .next (present.linkConnect l) := by
      simp only [exec, execConnectDetection, hq]
      rfl
    have hw : (present.lane l).link.state = .waiting ↔ (s.lane l).link.state = .waiting := by
      rw [hs]
      exact s.state_advance_eq_iff left l (by simp)
    refine ⟨fun h => ?_, fun h => ?_⟩
    · rw [he, State.linkConnect_waiting _ _ (hw.2 h), State.enterAttaching_eq, ho]
    · rw [he, State.linkConnect_other _ _ (fun hc => h (hw.1 hc))]
  · extract_lets gone
    have hs : (gone.lane l).link.state = (s.lane l).link.state := by simp [gone]
    have ha : (gone.lane l).connected = .waiting := LaneState.connected_absent _ (by simp [gone])
    have he : exec (.disconnectDetection l) s = .next (gone.linkDisconnect l) := by
      simp only [exec, execDisconnectDetection, hp]
      rfl
    refine ⟨fun h => ?_, fun h => ?_, fun h => ?_⟩
    · rw [he, State.linkDisconnect_up _ _ (hs.trans h), State.enterWaiting_eq, State.connected_leaveUp, ha]
    · rw [he, State.linkDisconnect_attached _ _ (hs ▸ h), State.enterWaiting_eq, ha]
    · rw [he, State.linkDisconnect_other _ _ (hs ▸ h)]

/-! ### LINK_RESET and SET_LINK (R44, R45) -/

/-- An acting lane-scope request of an allowed length, from a requester that passes, is handled by its block. -/
theorem arrive_laneRequest {s : State} {o : Originator} {l : LaneId} (hs : s.hears) (hp : s.passes o l) {ok : Nat → Bool}
    {handle : LaneId → Request → State → State} (hh : ∀ l rq, OneReply (handle l rq)) (code tag : Byte) (body : List Byte)
    (hl : ok body.length = true) (hb : body.length ≤ 4096) :
    arrive ⟨o, laneByte l, code, tag, body⟩ (laneRequest .acting ok handle) s = handle l ⟨o, laneByte l, code, tag, body⟩ s := by
  rw [arrive_of_hears hs _ hb _ ((OneReply.laneRequest hh .acting ok _).rx s), laneRequest_acting _ _ _ _ _ _ _ _ hl hp]

/-- R44, R48: a fresh attach, by link state. -/
theorem State.linkReattach_at_rest (s : State) (l : LaneId) (h : (s.lane l).link.state = .disabled ∨ (s.lane l).link.state = .vacant) :
    s.linkReattach l = s := by
  rcases h with h | h <;> simp only [State.linkReattach, h]
theorem State.linkReattach_up (s : State) (l : LaneId) (h : (s.lane l).link.state = .up) :
    s.linkReattach l = (s.leaveUp l).linkEnters l (s.lane l).reattached := by
  have hr : (s.lane l).reattached = (s.lane l).connected := by simp [LaneState.reattached, h]
  simp only [State.linkReattach, h, State.enterWaiting_eq, State.connected_leaveUp, hr]
theorem State.linkReattach_other (s : State) (l : LaneId) (hd : (s.lane l).link.state ≠ .disabled)
    (hv : (s.lane l).link.state ≠ .vacant) (hu : (s.lane l).link.state ≠ .up) :
    s.linkReattach l = s.linkEnters l (s.lane l).reattached := by
  have hr : (s.lane l).reattached = (s.lane l).connected := by simp [LaneState.reattached, hd, hv]
  rw [hr, ← State.enterWaiting_eq]
  unfold State.linkReattach
  split
  · next h => exact absurd h hd
  · next h => exact absurd h hv
  · rfl
  · rfl
  · next h => exact absurd h hu
  · rfl

/-- R45: off, by link state. -/
theorem State.linkOff_up (s : State) (l : LaneId) (h : (s.lane l).link.state = .up) :
    s.linkOff l = (s.leaveUp l).linkEnters l .disabled := by
  simp only [State.linkOff, h]
  exact State.setLinkState_eq _ _ _ (by decide)
theorem State.linkOff_other (s : State) (l : LaneId) (h : (s.lane l).link.state ≠ .up) :
    s.linkOff l = s.linkEnters l .disabled := by
  unfold State.linkOff
  split
  · next hu => exact absurd hu h
  · exact State.setLinkState_eq _ _ _ (by decide)

/-- R45: on, by link state and nest. -/
theorem State.linkOn_disabled (s : State) (l : LaneId) (h : (s.lane l).link.state = .disabled) :
    s.linkOn l = s.linkEnters l (if (s.lane l).nest.seated = true then (s.lane l).connected else .vacant) := by
  simp only [State.linkOn, h]
  split
  · exact s.enterWaiting_eq l
  · exact s.setLinkState_eq l _ (by decide)
theorem State.linkOn_other (s : State) (l : LaneId) (h : (s.lane l).link.state ≠ .disabled) : s.linkOn l = s := by
  unfold State.linkOn
  split
  · next hd => exact absurd hd h
  · rfl

@[simp] theorem State.state_linkEnters (s : State) (l : LaneId) (k : LinkState) :
    ((s.linkEnters l k).lane l).link.state = k := by simp [State.linkEnters]

/-- Settles O33: both requests are `linkReattach`, `linkOff` and `linkOn` by link state, and leaving UP keeps what they read. -/
theorem linkRequestsByState : Obligations.LinkRequestsByState := by
  intro s o l tag hs hp reset link state attached
  have hreset : reset = .next (handleLinkReset l ⟨o, laneByte l, 0x23, tag, []⟩ s) :=
    congrArg Host.Outcome.next (arrive_laneRequest hs hp oneReply_linkReset 0x23 tag [] rfl (by simp))
  have hlink (b : Byte) : link b = .next (handleSetLink l ⟨o, laneByte l, 0x24, tag, [b]⟩ s) :=
    congrArg Host.Outcome.next (arrive_laneRequest hs hp oneReply_setLink 0x24 tag [b] rfl (by simp))
  have hre (hd : state ≠ .disabled) (hv : state ≠ .vacant) : reset = .next ((s.linkReattach l).goodReply 0x23 tag o l
      (le8 ((s.linkReattach l).lane l).link.state.code)) := by
    rw [hreset]
    unfold handleLinkReset
    split
    · next h => exact absurd h hd
    · next h => exact absurd h hv
    · rfl
  have hoff : link 0 = .next ((s.linkOff l).goodReply 0x24 tag o l (le8 ((s.linkOff l).lane l).link.state.code)) := hlink 0
  have hon : link 1 = .next ((s.linkOn l).goodReply 0x24 tag o l (le8 ((s.linkOn l).lane l).link.state.code)) := hlink 1
  refine ⟨fun h => ?_, fun h => ?_, fun hd hv hu => ?_, fun hu => ?_, fun b hb => ?_, fun hu => ?_, fun hu => ?_,
    fun hd hn => ?_, fun hd hn => ?_, fun hd => ?_⟩
  · rw [hreset, handleLinkReset, show (s.lane l).link.state = .disabled from h]
    rfl
  · rw [hreset, handleLinkReset, show (s.lane l).link.state = .vacant from h]
    rfl
  · rw [hre hd hv, State.linkReattach_other s l hd hv hu, State.state_linkEnters]
  · rw [hre (by rw [hu]; decide) (by rw [hu]; decide), State.linkReattach_up s l hu, State.state_linkEnters]
  · rw [hlink]
    exact congrArg Host.Outcome.next (if_pos hb)
  · rw [hoff, State.linkOff_other s l hu, State.state_linkEnters]
    rfl
  · rw [hoff, State.linkOff_up s l hu, State.state_linkEnters]
    rfl
  · rw [hon, State.linkOn_disabled s l hd, State.state_linkEnters, if_neg (by simp [hn])]
    rfl
  · rw [hon, State.linkOn_disabled s l hd, State.state_linkEnters, if_pos hn]
  · rw [hon, State.linkOn_other s l hd]

end Sys2Proof.Machine
end

section
/-! The OUT engine, the stall clearings and the IN engine (R36 to R43, R58, R59). -/

namespace Sys2Proof.Machine

/-! ### Shared operations of the engines -/

/-- R36, R37: a transport error at the attempt limit of the error count. -/
theorem State.transportError_fault (s : State) (engine : Nat) (l : LaneId) (go : State → State)
    (h : (s.lane l).options.attemptLimit ≤ (s.lane l).link.errorCount + 1) : s.transportError engine l go = s.linkFault engine l := by
  rw [State.transportError, if_pos h]
  exact s.linkFault_errorCount l engine ((s.lane l).link.errorCount + 1)

/-- R36: a transport error below it is counted. -/
theorem State.transportError_counted (s : State) (engine : Nat) (l : LaneId) (go : State → State)
    (h : (s.lane l).link.errorCount + 1 < (s.lane l).options.attemptLimit) : s.transportError engine l go =
      go (s.onLane l fun L => L.onLink fun n => { n with errorCount := (s.lane l).link.errorCount + 1 }) := by
  rw [State.transportError, if_neg (Nat.not_le.2 h)]
  rfl

/-- R36: a lane whose error count is zeroed, and whose link is then changed further. -/
theorem State.zeroErrors_onLink (s : State) (l : LaneId) (f : Link → Link) :
    (s.zeroErrors l).onLane l (fun L => L.onLink f) = s.onLane l fun L => L.onLink fun n => f { n with errorCount := 0 } :=
  s.onLane_onLane l _ _

/-! ### The OUT engine -/

/-- R38. -/
theorem LaneState.maySend_iff (L : LaneState) : L.maySend = true ↔
    L.link.state = .up ∧ L.link.out = .idle ∧ L.send.halted = false ∧ .out ∉ L.link.clearings := by
  simp [LaneState.maySend, and_assoc]

/-- R39. -/
theorem LaneState.lastAttempt_iff (L : LaneState) (f : Flight) : L.lastAttempt f = true ↔ L.options.attemptLimit ≤ f.attempt := by
  simp [LaneState.lastAttempt]

/-- Settles O45: a start by `maySend`, an expiry by `lastAttempt`. -/
theorem sendAttempts : Obligations.SendAttempts := by
  rintro s l L rfl
  refine ⟨fun r rest hq => ⟨fun hu ho hh hc => ?_, fun hn => ?_⟩, fun f left ho => ⟨fun ha => ?_, fun ha => ?_⟩, fun f left ho => ?_⟩
  · simp only [exec, execSendStart, hq, if_pos ((LaneState.maySend_iff _).2 ⟨hu, ho, hh, hc⟩), State.setOut,
      State.onLane_onLane]
    rfl
  · have hm : ¬ (s.lane l).maySend = true := by
      rw [LaneState.maySend_iff]
      rintro ⟨hu, ho, hh, hc⟩
      rcases hn with h | h | h | h
      · exact h hu
      · exact h ho
      · rw [hh] at h; cases h
      · exact hc h
    simp only [exec, execSendStart, hq, if_neg hm]
  · have hl : ¬ (s.lane l).lastAttempt f = true := by rw [LaneState.lastAttempt_iff]; omega
    simp only [exec, execSendTimerExpiry, ho, if_neg hl]
    rfl
  · simp only [exec, execSendTimerExpiry, ho, if_pos (((s.lane l).lastAttempt_iff f).2 ha)]
  · simp only [exec, execRetryWaitEnd, ho]
    rfl

/-- R38: the last data packet of a packet is the one after all whole ones. -/
theorem dataPackets_le_iff (len p accepted : Nat) : dataPackets len p ≤ accepted + 1 ↔ len / p ≤ accepted := by
  simp only [dataPackets]
  omega

/-- R39, R70, R71: the reply of a send that succeeds, by the retries and the option. -/
theorem State.sendSucceeds_good (s : State) (f : Flight) (l : LaneId)
    (h : f.attempt - 1 = 0 ∨ (s.lane l).options.reportRecovered = false) : s.sendSucceeds f l =
      ((s.onLane l fun L => { L with
        link := { L.link with out := .idle, recovered := min 65535 (L.link.recovered + (f.attempt - 1)) }
        activity := some 50000 }).releaseDown f.record.cells).goodReply 0x20 f.record.tag f.record.sender l
          (le16 f.record.epoch.toNat ++ le8 (f.attempt - 1)) := by
  have hc : ¬ (f.attempt - 1 ≠ 0 ∧ (s.lane l).options.reportRecovered = true) := by
    rintro ⟨h1, h2⟩
    rcases h with h | h
    · exact h1 h
    · rw [h] at h2; cases h2
  rw [State.sendSucceeds, if_neg hc]
  rfl
theorem State.sendSucceeds_recovered (s : State) (f : Flight) (l : LaneId) (h : f.attempt - 1 ≠ 0)
    (hr : (s.lane l).options.reportRecovered = true) : s.sendSucceeds f l =
      ((s.onLane l fun L => { L with
        link := { L.link with out := .idle, recovered := min 65535 (L.link.recovered + (f.attempt - 1)) }
        activity := some 50000 }).releaseDown f.record.cells).checkReply (.sendRetried (f.attempt - 1)) 0x20 f.record.tag
          f.record.sender l := by
  rw [State.sendSucceeds, if_pos ⟨h, hr⟩]
  rfl

/-- R29: P is one of the two packet sizes of bulk endpoints. -/
theorem Link.packetSize_pos (n : Link) : 0 < n.packetSize := by
  unfold Link.packetSize
  split <;> decide

/-- Settles O46: the data packet sent is `dataPacket_spec`'s, and each outcome is one branch of the engine that is sending. -/
theorem outTransactions : Obligations.OutTransactions := by
  rintro s l L f left rfl ho done counted last retries moved sent
  have hdone (r : OutResult) : done r = execOutTransactionDone l r s := rfl
  have hz : s.zeroErrors l = counted 0 (.sending f left) := by
    simp only [counted, State.zeroErrors, State.onLane_eq_setLane, LaneState.onLink, ho]
  have hmoved : ((s.zeroErrors l).tookOut l) = moved (.sending f left) := by
    simp only [moved, State.zeroErrors, State.tookOut, State.onLane_eq_setLane, LaneState.onLink, State.lane_setLane_self,
      State.setLane_setLane, ho]
  have hlast : ¬ f.accepted < last ↔ dataPackets f.record.data.length (s.lane l).link.packetSize ≤ f.accepted + 1 := by
    rw [dataPackets_le_iff, Nat.not_lt]
    rfl
  have hsent : ((moved (.sending f left)).onLane l fun L => { L with
        link := { L.link with out := .idle, recovered := min 65535 (L.link.recovered + retries) }
        activity := some 50000 }).releaseDown f.record.cells = sent := by
    simp only [sent, moved, State.onLane_onLane]
  have hopt : ((moved (.sending f left)).lane l).options = (s.lane l).options := by simp [moved]
  refine ⟨fun d hd ha => ?_, ?_, fun ha => ?_, fun ha hr => ?_, fun ha hr hrep => ?_, ?_, fun h => ?_, fun he ha => ?_⟩
  · obtain ⟨whole, final, hf, hc, hw, hl, hi⟩ := dataPacket_spec _ (s.lane l).link.packetSize_pos f.record.data
    exact ⟨whole, final, _, hf, hc, hw, hl, hi _ ha, Link.outTransaction_sending _ d f left hd ho⟩
  · simp only [hdone, execOutTransactionDone, ho, State.setOut, State.zeroErrors_onLink]
    rfl
  · simp only [hdone, execOutTransactionDone, ho, if_neg (fun h => hlast.2 h ha), hmoved, State.setOut, moved,
      State.onLane_onLane]
    rfl
  · simp only [hdone, execOutTransactionDone, ho, if_pos (hlast.1 (Nat.not_lt.2 ha)), hmoved]
    rw [State.sendSucceeds_good _ _ _ (hr.imp_right fun h => hopt ▸ h), hsent]
  · simp only [hdone, execOutTransactionDone, ho, if_pos (hlast.1 (Nat.not_lt.2 ha)), hmoved]
    rw [State.sendSucceeds_recovered _ _ _ hr (hopt ▸ hrep), hsent]
  · simp only [hdone, execOutTransactionDone, ho, hz]
    rfl
  · simp only [hdone, execOutTransactionDone, ho]
    by_cases he : (s.lane l).options.attemptLimit ≤ (s.lane l).link.errorCount + 1
    · rw [State.transportError_fault _ _ _ _ he]
    · have ha : (s.lane l).options.attemptLimit ≤ f.attempt := h.resolve_left he
      rw [State.transportError_counted _ _ _ _ (Nat.not_le.1 he), if_pos ((LaneState.lastAttempt_iff _ f).2 ha),
        State.linkFault_errorCount]
  · have hl : ¬ (s.lane l).lastAttempt f = true := by rw [LaneState.lastAttempt_iff]; omega
    simp only [hdone, execOutTransactionDone, ho]
    rw [State.transportError_counted _ _ _ _ he, if_neg hl]
    simp only [State.retryWait, State.setOut, State.onLane_onLane]
    rfl

end Sys2Proof.Machine
end

section
/-! The stall clearings and the IN engine (R36, R37, R40 to R43, R58, R59, R84). -/

namespace Sys2Proof.Machine

/-! ### Stall clearings (R40) -/

/-- R40, R43: the end of a clearing puts the toggle of its endpoint back to DATA0. -/
theorem Link.clearingEnds_eq (e : Endpoint) (rest : List Endpoint) (n : Link) : n.clearingEnds e rest =
    { n with
      clearings := rest
      outToggle := if e = .out then false else n.outToggle
      inToggle := if e = .inn then false else n.inToggle } := by
  cases e <;> rfl

theorem Endpoint.engine_eq (e : Endpoint) : e.engine = if e = .out then 0 else 1 := by cases e <;> rfl

theorem execStallClearingDone_head (s : State) (l : LaneId) (r : ClearResult) (e : Endpoint) (rest : List Endpoint)
    (hc : (s.lane l).link.clearings = e :: rest) (hr : (s.lane l).link.clearRetry = none) :
    execStallClearingDone l r s = .next (match r with
      | .cleared => (s.zeroErrors l).onLane l fun L => L.onLink (Link.clearingEnds e rest)
      | .stall => (s.zeroErrors l).onLane l fun L => L.onLink (Link.clearingEnds e rest)
      | .nak => s
      | .transportError =>
        s.transportError e.engine l fun t => t.onLane l fun L => L.onLink fun n => { n with clearRetry := some 1000 }) := by
  cases r <;> simp only [execStallClearingDone, hc, hr, Config.errorRetryUs]

/-! ### Polls (R41 to R43) -/

theorem State.pollConditions_congr {s t : State} (l : LaneId)
    (hs : (t.lane l).link.state = .up ↔ (s.lane l).link.state = .up) (hf : (t.lane l).flowHeld = (s.lane l).flowHeld)
    (ho : (t.lane l).occupancy = (s.lane l).occupancy) (hq : t.squeezed = s.squeezed) (hr : t.reserve = s.reserve) :
    t.pollConditions l ↔ s.pollConditions l := by
  simp only [State.pollConditions, hs, hf, ho, hq, hr]

/-- Time alone changes no poll condition. -/
theorem State.pollConditions_advance (s : State) (d : Nat) (l : LaneId) : (s.advance d).pollConditions l ↔ s.pollConditions l :=
  State.pollConditions_congr l (s.state_advance_eq_iff d l (by simp)) (by simp) (by simp) rfl rfl

/-- R42: what the expiry of a partial packet's timer does, wherever the packet is being read. -/
theorem execPollNakTimeout_reading (s : State) (l : LaneId) (bytes : List Byte) (count left : Nat)
    (h : (s.lane l).link.inn.reading = some ⟨bytes, count, some left⟩) : execPollNakTimeout l s =
      .next ((s.advance left).transportError 1 l fun t => t.setIn (.pollWait 125 none) l) := by
  simp only [execPollNakTimeout, h, Config.nakWaitUs]

theorem State.errorCount_advance (s : State) (d : Nat) (l : LaneId) :
    ((s.advance d).lane l).link.errorCount = (s.lane l).link.errorCount := by
  rw [State.lane_advance]
  rfl

/-- Settles O47: a clearing by the head of the queue, and each end of a wait by `recheckPoll_spec`. -/
theorem clearingsPollsAndWaits : Obligations.ClearingsPollsAndWaits := by
  refine ⟨?_, ?_⟩
  · rintro s l L rfl
    refine ⟨fun e rest hc hr => ?_, fun left hr => ?_⟩
    · intro done ended
      have hdone (r : ClearResult) : done r = _ := execStallClearingDone_head s l r e rest hc hr
      have hended : (s.zeroErrors l).onLane l (fun L => L.onLink (Link.clearingEnds e rest)) = ended := by
        simp only [State.zeroErrors_onLink, Link.clearingEnds_eq]
        rfl
      refine ⟨?_, ?_, hdone .nak, fun h => ?_, fun h => ?_⟩
      · rw [hdone, hended]
      · rw [hdone, hended]
      · simp only [hdone, State.transportError_fault _ _ _ _ h, Endpoint.engine_eq]
      · simp only [hdone, State.transportError_counted _ _ _ _ h, State.onLane_onLane]
        rfl
    · simp only [exec, execStallClearingRetry, hr]
      rfl
  · rintro s l L rfl engine
    refine ⟨fun p hi => ⟨fun hc => ?_, fun hc => ?_⟩, fun left hi => ⟨fun hm => ?_, fun hm hc => ?_, fun hm hc => ?_⟩,
      fun left p hi => ⟨fun hc => ?_, fun hc => ?_⟩, fun bytes count left hi => ?_⟩
    · simp only [exec, execPollIssue, hi, (s.recheckPoll_spec l p).1 hc]
      rfl
    · simp only [exec, execPollIssue, hi, (s.recheckPoll_spec l p).2 hc]
      rw [← hi, State.setIn_same]
    · simp only [exec, execPollWaitEnd, hi, if_pos (List.contains_iff_mem.2 hm)]
    · simp only [exec, execPollWaitEnd, hi, if_neg (mt List.contains_iff_mem.1 hm),
        ((s.advance left).recheckPoll_spec l none).1 ((s.pollConditions_advance left l).2 hc)]
      rfl
    · simp only [exec, execPollWaitEnd, hi, if_neg (mt List.contains_iff_mem.1 hm),
        ((s.advance left).recheckPoll_spec l none).2 (mt (s.pollConditions_advance left l).1 hc)]
      rfl
    · simp only [exec, execPollWaitEnd, hi,
        ((s.advance left).recheckPoll_spec l _).1 ((s.pollConditions_advance left l).2 hc)]
      rfl
    · simp only [exec, execPollWaitEnd, hi,
        ((s.advance left).recheckPoll_spec l _).2 (mt (s.pollConditions_advance left l).1 hc)]
      rfl
    · have hr : (s.lane l).link.inn.reading = some ⟨bytes, count, some left⟩ := by
        rcases hi with h | ⟨w, h⟩ | h <;> rw [h] <;> rfl
      have he : exec (.pollNakTimeout l) s = _ := execPollNakTimeout_reading s l bytes count left hr
      have hcount := s.errorCount_advance left l
      have hlimit := congrArg LaneOptions.attemptLimit (s.options_advance left l)
      refine ⟨fun h => ?_, fun h => ?_⟩
      · rw [he, State.transportError_fault _ _ _ _ (by rw [hlimit, hcount]; exact h)]
      · rw [he, State.transportError_counted _ _ _ _ (by rw [hlimit, hcount]; exact h), hcount]
        simp only [State.setIn, State.onLane_onLane]
        rfl

/-! ### IN transactions (R36, R37, R42) -/

/-- R42: an engine that asks, in POLLING or while the poll runs to its end in IDLE. -/
theorem InEngine.asking_going {p : Poll} {going : Poll → InEngine}
    (hg : going = .polling ∨ (going = fun q => .idle (some q))) : (going p).asking = some p := by
  rcases hg with rfl | rfl <;> rfl

theorem InEngine.goOn_going {p q : Poll} {going : Poll → InEngine}
    (hg : going = .polling ∨ (going = fun q => .idle (some q))) : (going p).goOn q = going q := by
  rcases hg with rfl | rfl <;> rfl

/-- R36, R42: what a data packet of a poll does to the lane, by what it makes of the packet being read. -/
def State.pollReads (x : ReadNext) (p : Poll) (l : LaneId) (s : State) : State :=
  match x with
  | .tooLong => s.pollError p l
  | .repeated => s.zeroErrors l
  | .more q => ((s.zeroErrors l).tookIn l).pollGoesOn q l
  | .ended kept count => ((s.zeroErrors l).tookIn l).packetEnds kept count l

theorem execInTransactionDone_data (s : State) (l : LaneId) (p : Poll) (toggle : Bool) (data : List Byte) {x : ReadNext}
    (hp : (s.lane l).link.inn.asking = some p) (hx : p.accept (s.lane l).link.packetSize (s.lane l).options.sendTimeout
      (toggle == (s.lane l).link.inToggle) data = x) :
    execInTransactionDone l (.data toggle data) s = .next (s.pollReads x p l) := by
  cases x <;> simp only [execInTransactionDone, hp, hx, State.pollReads]

/-- Recording a condition reads of its lane the claim and the epoch. -/
theorem State.recordAsync_onLink (s : State) (c : Cond) (l : LaneId) (f : Link → Link)
    (hf : (f (s.lane l).link).epoch = (s.lane l).link.epoch) :
    (s.onLane l fun L => L.onLink f).recordAsync c l = (s.recordAsync c l).onLane l fun L => L.onLink f := by
  cases hc : (s.lane l).claim with
  | none => rw [State.recordAsync_free _ _ _ hc, State.recordAsync_free _ _ _ (by simp [hc])]
  | some k =>
    rw [State.recordAsync_held _ _ _ _ hc, State.recordAsync_held (s.onLane l _) _ _ k (by simp [hc])]
    simp only [State.recordLane, State.onLane_eq_setLane, State.lane_setLane_self, State.setLane_setLane, LaneState.onLink,
      LaneState.onSense, hf, State.setLane_timebase]

/-- Settles O48: both engines that read a poll ask with the same poll, so each outcome is settled once for the two. -/
theorem inTransactions : Obligations.InTransactions := by
  rintro s l L p going rfl hg hi done counted failed taken
  have hask : (s.lane l).link.inn.asking = some p := hi ▸ InEngine.asking_going hg
  have hdone (r : InResult) : done r = execInTransactionDone l r s := rfl
  have hz : s.zeroErrors l = counted 0 (going p) := by
    simp only [counted, State.zeroErrors, State.onLane_eq_setLane, LaneState.onLink, hi]
  have hset (e : InEngine) : (s.zeroErrors l).setIn e l = counted 0 e := s.zeroErrors_onLink l _
  have htaken (e : InEngine) : ((s.zeroErrors l).tookIn l).setIn e l = taken e := by
    simp only [taken, State.zeroErrors, State.tookIn, State.setIn, State.onLane_onLane]
    rfl
  have hfailed : failed (.next (s.pollError p l)) := by
    refine ⟨fun h => ?_, fun h => ?_⟩
    · rw [State.pollError, State.transportError_fault _ _ _ _ h]
    · rw [State.pollError, State.transportError_counted _ _ _ _ h]
      simp only [State.setIn, State.onLane_onLane]
      rfl
  refine ⟨fun d hd => ?_, fun h => ?_, fun h => ?_, ?_, ?_, fun data => ?_⟩
  · simp only [Link.inTransaction, hd, Link.awaitsData, hask]
  · simp only [hdone, execInTransactionDone, hask, if_pos h, hset]
    rfl
  · simp only [hdone, execInTransactionDone, hask, if_neg h.ne', hz]
  · simp only [hdone, execInTransactionDone, hask]
    exact hfailed
  · have hstall : done .stall = .next ((((s.zeroErrors l).recordAsync .pollStalled l).setIn (.pollWait 125 none) l).needClearing
        .inn l) := by
      simp only [hdone, execInTransactionDone, hask]
      rfl
    rw [hstall, State.needClearing, State.setIn, ← State.recordAsync_onLink, ← State.recordAsync_onLink]
    · congr 2
      rw [← hset]
      rfl
    · rfl
    · rfl
  · intro size kept count taking
    have hacc (fresh : Bool) := p.accept_spec (s.lane l).link.packetSize (s.lane l).options.sendTimeout fresh data
    have hdata (toggle : Bool) (x : ReadNext) := execInTransactionDone_data s l p toggle data (x := x) hask
    have hfresh : ((s.lane l).link.inToggle == (s.lane l).link.inToggle) = true := beq_self_eq_true _
    have hstale : ((!(s.lane l).link.inToggle) == (s.lane l).link.inToggle) = false := by simp
    refine ⟨fun toggle h => ?_, fun h => ?_, fun h hc => ?_, fun h => ⟨_, rfl, ?_⟩⟩
    · rw [hdone, hdata _ _ ((hacc _).1 h)]
      exact hfailed
    · rw [hdone, hdata _ _ ((hacc _).2.1 h hstale), ← hz]
      rfl
    · have hgo : (((s.zeroErrors l).tookIn l).lane l).link.inn.goOn ⟨kept, count, some ((s.lane l).options.sendTimeout * 1000)⟩ =
          going ⟨kept, count, some ((s.lane l).options.sendTimeout * 1000)⟩ := by
        rw [State.lane_tookIn_self, State.zeroErrors, State.lane_onLane_self]
        exact hi ▸ InEngine.goOn_going hg
      rw [show taking = _ from hdata _ _ ((hacc _).2.2.1 h hfresh hc), ← htaken, ← hgo]
      rfl
    · have hend : taking = .next ((((taken (.idle none)).onLane l fun K => { K with activity := some 50000 }).arrival kept count
          l).recheckPoll none l) := by
        rw [show taking = _ from hdata _ _ ((hacc _).2.2.2 h hfresh), ← htaken]
        rfl
      rw [hend]
      exact ⟨fun hc => by rw [(State.recheckPoll_spec _ l none).1 hc]; rfl,
        fun hc => by rw [(State.recheckPoll_spec _ l none).2 hc]; rfl⟩

end Sys2Proof.Machine
end

section
/-! The attach: port reset, enumeration and identity exchange (R29 to R33, R36, R42). -/

namespace Sys2Proof.Machine

/-! ### Phases -/

/-- R29: an attach under way goes to a phase. -/
theorem State.setPhase_eq (s : State) (l : LaneId) (p q : AttachPhase) (a : Nat)
    (h : (s.lane l).link.state = .attaching ⟨a, p⟩) :
    s.setPhase q l = s.onLane l fun L => { L with link := { L.link with state := .attaching ⟨a, q⟩ } } := by
  simp only [State.setPhase, State.onLane_eq_setLane, LaneState.onLink, h]

/-- R29: a link that is changed otherwise, and whose attach then goes to a phase. -/
theorem State.onLane_setPhase (s : State) (l : LaneId) (f : LaneState → LaneState) (p q : AttachPhase) (a : Nat)
    (h : (f (s.lane l)).link.state = .attaching ⟨a, p⟩) : (s.onLane l f).setPhase q l =
      s.onLane l fun L => { f L with link := { (f L).link with state := .attaching ⟨a, q⟩ } } := by
  rw [State.setPhase_eq _ l p q a (by rw [State.lane_onLane_self]; exact h), State.onLane_onLane]

theorem State.phase_advance {s : State} {l : LaneId} {a : Nat} {p : AttachPhase}
    (h : (s.lane l).link.state = .attaching ⟨a, p⟩) (d : Nat) :
    ((s.advance d).lane l).link.state = .attaching ⟨a - d, p.pass d⟩ := State.state_advance_attaching h d

/-- An expiry within an attach lets its time pass, and the attach goes to a phase. -/
theorem State.advance_setPhase {s : State} {l : LaneId} {a : Nat} {p : AttachPhase}
    (h : (s.lane l).link.state = .attaching ⟨a, p⟩) (d : Nat) (q : AttachPhase) : (s.advance d).setPhase q l =
      (s.advance d).onLane l fun L => { L with link := { L.link with state := .attaching ⟨a - d, q⟩ } } :=
  State.setPhase_eq _ l _ q _ (State.phase_advance h d)

/-! ### Enumeration (R29) -/

/-- R29: the interface is the diagnostic function, with both bulk endpoints of size `p`. -/
def isDiagnostic (p : Nat) (value : Byte) (i : Interface) (d : DiagFunction) : Prop :=
  i.cls = 0xFF ∧ i.subclass = 0x4D ∧ i.protocol = 0x02 ∧ i.outs = [⟨d.outEndpoint, p⟩] ∧ i.ins = [⟨d.inEndpoint, p⟩] ∧
    d.configuration = value

theorem diagnosticOf_eq_some (p : Nat) (value : Byte) (i : Interface) (d : DiagFunction) :
    diagnosticOf p value i = some d ↔ isDiagnostic p value i d := by
  obtain ⟨cls, subclass, protocol, outs, ins⟩ := i
  obtain ⟨c, eo, ei⟩ := d
  unfold diagnosticOf isDiagnostic
  constructor
  · intro h
    split_ifs at h with hc
    split at h
    · next o n ho hn =>
      split_ifs at h with hs
      cases h
      obtain ⟨no, so⟩ := o
      obtain ⟨nn, sn⟩ := n
      obtain ⟨rfl, rfl⟩ : so = p ∧ sn = p := hs
      exact ⟨hc.1, hc.2.1, hc.2.2, ho, hn, rfl⟩
    · cases h
  · rintro ⟨h1, h2, h3, ho, hn, rfl⟩
    simp only at h1 h2 h3 ho hn
    subst h1 h2 h3 ho hn
    simp

theorem diagnosticOf_eq_none (p : Nat) (value : Byte) (i : Interface) (h : ∀ d, ¬ isDiagnostic p value i d) :
    diagnosticOf p value i = none :=
  Option.eq_none_iff_forall_ne_some.2 fun d hd => h d ((diagnosticOf_eq_some p value i d).1 hd)

/-- R29: the first diagnostic function of a configuration is the one found. -/
theorem findSome_diagnostic (p : Nat) (value : Byte) (before after : List Interface) (i : Interface) (d : DiagFunction)
    (hb : ∀ j ∈ before, ∀ e, ¬ isDiagnostic p value j e) (hd : isDiagnostic p value i d) :
    (before ++ i :: after).findSome? (diagnosticOf p value) = some d := by
  rw [List.findSome?_append, List.findSome?_eq_none_iff.2 fun j hj => diagnosticOf_eq_none p value j (hb j hj)]
  simp [(diagnosticOf_eq_some p value i d).2 hd]

/-- R29: what an ENUMERATING transfer of `stage` that ended with `r` does to the lane, by what it leads to. -/
def State.enumGoes (a : Nat) (stage : EnumStage) (r : EnumResult) (l : LaneId) (s : State) : EnumNext → State
  | .again => s
  | .retry => s.onLane l fun L => { L with link := { L.link with state := .attaching ⟨a, .enumerating stage (some 1000)⟩ } }
  | .stage e => s.onLane l fun L =>
    { L with link := { L.link.enumerated stage r with state := .attaching ⟨a, .enumerating e none⟩ } }
  | .identify => s.onLane l fun L =>
    { L with link := { L.link.enumerated stage r with state := .attaching ⟨a, .identifying .request none⟩ } }
  | .missing => (s.onLane l fun L => L.onLink (Link.enumerated stage r)).attachFails 2 l
  | .impossible => s

theorem execEnumeration_stage (s : State) (l : LaneId) (a : Nat) (stage : EnumStage) (r : EnumResult) {x : EnumNext}
    (h : (s.lane l).link.state = .attaching ⟨a, .enumerating stage none⟩)
    (hx : enumNext (s.lane l).link.packetSize stage r = x) :
    execEnumerationTransferDone l r s = .next (s.enumGoes a stage r l x) := by
  have hp (q : AttachPhase) : (s.onLane l fun L => L.onLink (Link.enumerated stage r)).setPhase q l = s.onLane l fun L =>
      { L with link := { L.link.enumerated stage r with state := .attaching ⟨a, q⟩ } } :=
    s.onLane_setPhase l _ (.enumerating stage none) q a (by simpa using h)
  have hr := s.setPhase_eq l _ (.enumerating stage (some 1000)) a h
  cases x <;> simp only [execEnumerationTransferDone, h, hx, hp, Config.errorRetryUs, hr, State.enumGoes]

/-- R29: an answer that assigns and selects nothing leaves the link. -/
theorem State.onLane_enumerated_same (s : State) (l : LaneId) (stage : EnumStage) (r : EnumResult)
    (h : ∀ n : Link, n.enumerated stage r = n) : (s.onLane l fun L => L.onLink (Link.enumerated stage r)) = s := by
  rw [State.onLane_eq_setLane, LaneState.onLink, h]
  exact s.setLane_lane l

/-- Settles O41: each result of each stage leads where `enumNext` says. -/
theorem attachEnumerates : Obligations.AttachEnumerates := by
  intro s l a linked goes p
  refine ⟨fun left b h => ?_, fun stage h => ?_, fun stage left h => ?_, fun stage left h => ?_⟩
  · have hp := State.onLane_setPhase (s.advance left) l (fun L => L.onLink (Link.resetDone b)) ((AttachPhase.resetting left).pass left)
      (.enumerating .device none) (a - left)
      (by rw [LaneState.onLink_link, Link.resetDone_state]; exact State.phase_advance h left)
    simp only [exec, execPortResetEnd, h, hp]
    rfl
  · intro done
    have hdone (r : EnumResult) (x : EnumNext) (hx : enumNext p stage r = x) : done r = .next (s.enumGoes a stage r l x) :=
      execEnumeration_stage s l a stage r h hx
    have hmissing (r : EnumResult) (hx : enumNext p stage r = .missing) (he : ∀ n : Link, n.enumerated stage r = n) :
        done r = .next (s.attachFails 2 l) := by
      rw [hdone r _ hx, State.enumGoes, State.onLane_enumerated_same _ _ _ _ he]
    refine ⟨hdone .nak .again (by cases stage <;> rfl), hdone .transportError .retry (by cases stage <;> rfl),
      hmissing .stall (by cases stage <;> rfl) (by cases stage <;> intro <;> rfl),
      hmissing .unparsable (by cases stage <;> rfl) (by cases stage <;> intro <;> rfl), ?_, ?_, ?_, ?_⟩
    · rintro n rfl
      exact hdone (.device n) _ rfl
    · rintro n rfl
      refine ⟨fun hn => ?_, fun hn => ?_⟩
      · exact hdone .addressed .missing (if_neg (by omega))
      · exact hdone .addressed (.stage (.configuration 0 n)) (if_pos hn)
    · rintro k n value interfaces rfl isFunction
      have hsearch (found : Option DiagFunction) (hf : interfaces.findSome? (diagnosticOf p value) = found) :
          enumNext p (.configuration k n) (.configuration value interfaces) =
            match found with
            | some d => .stage (.select d)
            | none => nextConfiguration (k + 1) n := by
        cases found <;> simp only [enumNext, hf]
      refine ⟨fun before i after d hi hb hd => ?_, fun hnone => ?_⟩
      · subst hi
        exact hdone _ _ (hsearch _ (findSome_diagnostic p value before after i d hb hd))
      · have hx := hsearch none (List.findSome?_eq_none_iff.2 fun j hj => diagnosticOf_eq_none p value j (hnone j hj))
        refine ⟨fun hk => ?_, fun hk => ?_⟩
        · exact hdone _ (.stage (.configuration (k + 1) n)) (hx.trans (if_pos hk))
        · exact hmissing _ (hx.trans (if_neg (by omega))) fun _ => rfl
    · rintro d rfl
      exact hdone .selected .identify rfl
  · simp only [exec, execAttachRetryExpiry, h, State.advance_setPhase h]
  · simp only [exec, execAttachRetryExpiry, h, State.advance_setPhase h]

end Sys2Proof.Machine
end

section
/-! The identity exchange of an attach (R30, R31, R36, R42). -/

namespace Sys2Proof.Machine

/-! ### The identity answer (R31) -/

/-- R31: the packet is a valid identity answer with the record `id`, and the phone sent no byte more. -/
def Identity.answers (id : Identity) (bytes : List Byte) (count : Nat) : Prop :=
  bytes = [0xF1] ++ le16 id.model.toNat ++ le16 id.agent.toNat ++ le8 id.serial.length ++ id.serial ++
      le8 id.label.length ++ id.label ∧
    1 ≤ id.serial.length ∧ id.serial.length ≤ 32 ∧ id.label.length ≤ 48 ∧ count = bytes.length

/-- R31: the fields of an answer, once its first six bytes are there. -/
theorem parseIdentity_cons (b0 b1 b2 b3 b4 b5 : Byte) (rest : List Byte) (count : Nat) :
    parseIdentity (b0 :: b1 :: b2 :: b3 :: b4 :: b5 :: rest) count =
      if 6 ≤ count ∧ (1 ≤ b5.toNat ∧ b5.toNat ≤ 32) ∧ 7 + b5.toNat ≤ count ∧ byteAt rest b5.toNat ≤ 48 ∧
          count = 7 + b5.toNat + byteAt rest b5.toNat then
        some { model := BitVec.ofNat 16 (b1.toNat + 256 * b2.toNat), agent := BitVec.ofNat 16 (b3.toNat + 256 * b4.toNat)
               serial := rest.take b5.toNat, label := (rest.drop (b5.toNat + 1)).take (byteAt rest b5.toNat) }
      else none := by
  have hn : byteAt (b0 :: b1 :: b2 :: b3 :: b4 :: b5 :: rest) 5 = b5.toNat := rfl
  have hm : byteAt (b0 :: b1 :: b2 :: b3 :: b4 :: b5 :: rest) (6 + b5.toNat) = byteAt rest b5.toNat := by
    rw [Nat.add_comm]; rfl
  have hd : (b0 :: b1 :: b2 :: b3 :: b4 :: b5 :: rest).drop (7 + b5.toNat) = rest.drop (b5.toNat + 1) := by
    rw [show 7 + b5.toNat = b5.toNat + 1 + 6 by omega]; rfl
  simp only [parseIdentity, hn, hm, hd]
  rfl

/-- A two-byte field reads back as the word that it holds. -/
theorem le16_toNat_ofNat (a b : Byte) : le16 (BitVec.ofNat 16 (a.toNat + 256 * b.toNat)).toNat = [a, b] := by
  have ha := a.isLt
  have hb := b.isLt
  rw [BitVec.toNat_ofNat, Nat.mod_eq_of_lt (by omega), le16_bytes]

theorem le8_toNat (b : Byte) : le8 b.toNat = [b] := by simp [le8]

theorem ofNat_le16 (w : BitVec 16) :
    BitVec.ofNat 16 ((BitVec.ofNat 8 w.toNat).toNat + 256 * (BitVec.ofNat 8 (w.toNat / 256)).toNat) = w := by
  have hw := w.isLt
  apply BitVec.eq_of_toNat_eq
  simp only [BitVec.toNat_ofNat]
  omega

/-- A list cut at a byte inside it. -/
theorem take_byteAt_drop (rest : List Byte) (n : Nat) (h : n < rest.length) :
    rest.take n ++ le8 (byteAt rest n) ++ rest.drop (n + 1) = rest := by
  rw [byteAt, List.getD_eq_getElem _ _ h, le8_toNat, List.take_append_getElem, List.take_append_drop]

/-- R31: what parses is an answer. -/
theorem parseIdentity_sound {bytes : List Byte} {count : Nat} {id : Identity} (hl : bytes.length = min count 1024)
    (hh : bytes.head? = some 0xF1) (h : parseIdentity bytes count = some id) : id.answers bytes count := by
  have h6 : 6 ≤ bytes.length := by
    unfold parseIdentity at h
    dsimp only at h
    split_ifs at h with hc
    omega
  rcases bytes with _ | ⟨b0, _ | ⟨b1, _ | ⟨b2, _ | ⟨b3, _ | ⟨b4, _ | ⟨b5, rest⟩⟩⟩⟩⟩⟩ <;>
    simp only [List.length_cons, List.length_nil] at h6 hl <;> try omega
  obtain rfl : b0 = 0xF1 := Option.some.inj hh
  rw [parseIdentity_cons] at h
  split_ifs at h with hc
  obtain ⟨-, ⟨h1, h2⟩, -, h3, h4⟩ := hc
  cases h
  have hr : rest.length = b5.toNat + 1 + byteAt rest b5.toNat := by omega
  have hs : (rest.take b5.toNat).length = b5.toNat := by rw [List.length_take]; omega
  have hd : (rest.drop (b5.toNat + 1)).take (byteAt rest b5.toNat) = rest.drop (b5.toNat + 1) :=
    List.take_of_length_le (by rw [List.length_drop]; omega)
  have hdl : (rest.drop (b5.toNat + 1)).length = byteAt rest b5.toNat := by rw [List.length_drop]; omega
  have hcut := take_byteAt_drop rest b5.toNat (by omega)
  simp only [Identity.answers, hd, hs, hdl, le16_toNat_ofNat, le8_toNat]
  refine ⟨?_, h1, h2, h3, by simp only [List.length_cons]; omega⟩
  simpa [List.append_assoc] using hcut.symm

/-- R31: an answer parses, and begins with 0xF1. -/
theorem Identity.answers.parse {id : Identity} {bytes : List Byte} {count : Nat} (h : id.answers bytes count) :
    bytes.head? = some 0xF1 ∧ parseIdentity bytes count = some id := by
  obtain ⟨rfl, h1, h2, h3, rfl⟩ := h
  refine ⟨rfl, ?_⟩
  obtain ⟨model, agent, serial, label⟩ := id
  simp only at h1 h2 h3
  have hn : (BitVec.ofNat 8 serial.length).toNat = serial.length := by rw [BitVec.toNat_ofNat]; omega
  have hm : (BitVec.ofNat 8 label.length).toNat = label.length := by rw [BitVec.toNat_ofNat]; omega
  have hb : byteAt (serial ++ BitVec.ofNat 8 label.length :: label) serial.length = label.length := by
    rw [byteAt, List.getD_eq_getElem _ _ (by simp)]
    simpa using hm
  have hd : (serial ++ BitVec.ofNat 8 label.length :: label).drop (serial.length + 1) = label := by
    rw [List.append_cons]
    exact List.drop_left' (by simp)
  simp only [le16, le8, List.cons_append, List.nil_append, List.append_assoc]
  rw [parseIdentity_cons, hn, hb, if_pos]
  · rw [ofNat_le16, ofNat_le16, List.take_left, hd, List.take_length]
  · simp only [List.length_cons, List.length_append]
    omega

/-! ### The transactions of the exchange (R30) -/

theorem execIdentity_request (s : State) (l : LaneId) (a : Nat) (r : OutResult)
    (h : (s.lane l).link.state = .attaching ⟨a, .identifying .request none⟩) :
    execIdentityTransactionDone l (.request r) s = .next (s.identityRequest r l) := by
  simp only [execIdentityTransactionDone, h]

theorem execIdentity_read (s : State) (l : LaneId) (a : Nat) (p : Poll) (r : InResult)
    (h : (s.lane l).link.state = .attaching ⟨a, .identifying (.reading p) none⟩) :
    execIdentityTransactionDone l (.read r) s = .next (s.identityRead r p l) := by
  simp only [execIdentityTransactionDone, h]

/-- R30, R42: what a data packet of the identity read does to the lane, by what it makes of the packet being read. -/
def State.identityReads (x : ReadNext) (p : Poll) (l : LaneId) (s : State) : State :=
  match x with
  | .tooLong => s.setPhase (.identifying (.reading p) (some 125)) l
  | .repeated => s
  | .more q => (s.tookIn l).setPhase (.identifying (.reading q) none) l
  | .ended kept count => (s.tookIn l).judgeIdentity kept count l

theorem State.identityRead_data (s : State) (l : LaneId) (p : Poll) (toggle : Bool) (data : List Byte) {x : ReadNext}
    (hx : p.accept (s.lane l).link.packetSize (s.lane l).options.sendTimeout (toggle == (s.lane l).link.inToggle) data = x) :
    s.identityRead (.data toggle data) p l = s.identityReads x p l := by
  cases x <;> simp only [State.identityRead, hx, State.identityReads, Config.nakWaitUs]

/-- R30, step 3: the three judgements of a complete packet. -/
theorem State.judgeIdentity_discard (s : State) (l : LaneId) {bytes : List Byte} (count : Nat) (h : bytes.head? ≠ some 0xF1) :
    s.judgeIdentity bytes count l = s.setPhase (.identifying (.reading Poll.fresh) none) l := if_neg h
theorem State.judgeIdentity_answer (s : State) (l : LaneId) {bytes : List Byte} {count : Nat} {id : Identity}
    (h : id.answers bytes count) : s.judgeIdentity bytes count l = s.attachSucceeds id l := by
  rw [State.judgeIdentity, if_pos h.parse.1, h.parse.2]
theorem State.judgeIdentity_invalid (s : State) (l : LaneId) {bytes : List Byte} {count : Nat}
    (hl : bytes.length = min count 1024) (hh : bytes.head? = some 0xF1) (h : ∀ id : Identity, ¬ id.answers bytes count) :
    s.judgeIdentity bytes count l = s.attachFails 3 l := by
  have hn : parseIdentity bytes count = none :=
    Option.eq_none_iff_forall_ne_some.2 fun id hi => h id (parseIdentity_sound hl hh hi)
  rw [State.judgeIdentity, if_pos hh, hn]

/-- R30: the OUT transaction of the identity request. -/
theorem Link.outTransaction_identity (n : Link) (d : DiagFunction) (a : Nat) (hd : n.function = some d) (ho : n.out = .idle)
    (hs : n.state = .attaching ⟨a, .identifying .request none⟩) :
    n.outTransaction = some ⟨n.address, d.outEndpoint, n.outToggle, [0xF0]⟩ := by
  have hp : dataPacket n.packetSize Config.identityRequest 0 = [0xF0] := by
    unfold Link.packetSize
    split <;> rfl
  simp only [Link.outTransaction, Link.outgoing, hd, ho, hs, hp]

/-- Settles O42: each result of the request and of the read by the phase's own equation; the packet that a read keeps is `Poll.accept_spec`'s. -/
theorem identityExchange : Obligations.IdentityExchange := by
  intro s l a goes size awaited taken done
  refine ⟨fun h => ?_, fun p h hlen => ?_, fun bytes count left wait h => ?_⟩
  · have hdone (r : OutResult) : done (.request r) = .next (s.identityRequest r l) := execIdentity_request s l a r h
    refine ⟨fun d hd ho => Link.outTransaction_identity _ d a hd ho h, ?_, hdone .nak, ?_, hdone .stall⟩
    · rw [hdone, State.identityRequest, State.tookOut, State.onLane_setPhase _ _ _ (.identifying .request none) _ a h]
      rfl
    · rw [hdone, State.identityRequest, State.setPhase_eq _ _ _ _ _ h]
      rfl
  · have hdone (r : InResult) : done (.read r) = .next (s.identityRead r p l) := execIdentity_read s l a p r h
    have hwait : s.setPhase (.identifying (.reading p) (some 125)) l = goes (.reading p) (some 125) := s.setPhase_eq l _ _ a h
    refine ⟨fun hc => ?_, fun hc => ?_, ?_, hdone .stall, fun data => ?_⟩
    · rw [hdone, State.identityRead, if_pos hc, ← hwait]
      rfl
    · rw [hdone, State.identityRead, if_neg hc.ne']
    · rw [hdone, State.identityRead, ← hwait]
      rfl
    · intro kept count ends answers reads
      have hreads (q : Poll) : (s.tookIn l).setPhase (.identifying (.reading q) none) l = reads (.reading q) :=
        s.onLane_setPhase l _ (.identifying (.reading p) none) _ a h
      have hacc (fresh : Bool) := p.accept_spec (s.lane l).link.packetSize (s.lane l).options.sendTimeout fresh data
      have hdata (toggle : Bool) {x : ReadNext} (hx : p.accept (s.lane l).link.packetSize (s.lane l).options.sendTimeout
          (toggle == awaited) data = x) : done (.read (.data toggle data)) = .next (s.identityReads x p l) := by
        rw [hdone, State.identityRead_data s l p toggle data hx]
      have hfresh : (awaited == awaited) = true := beq_self_eq_true _
      have hend (he : ends) : done (.read (.data awaited data)) = .next ((s.tookIn l).judgeIdentity kept count l) :=
        hdata _ ((hacc _).2.2.2 he hfresh)
      have hkept : kept.length = min count 1024 := by
        simp only [kept, count, List.length_take, List.length_append, hlen]
        omega
      refine ⟨fun toggle hd => ?_, fun hd => ?_, fun hd hc => ?_, fun he hh => ?_, fun id he ha => ?_, fun he hh ha => ?_⟩
      · rw [hdata _ ((hacc _).1 hd), ← hwait]
        rfl
      · exact hdata _ ((hacc _).2.1 hd (by simp [awaited]))
      · rw [hdata _ ((hacc _).2.2.1 hd hfresh hc), ← hreads]
        rfl
      · rw [hend he, State.judgeIdentity_discard _ _ _ hh, hreads]
      · rw [hend he, State.judgeIdentity_answer (id := id) _ _ ha]
        rfl
      · rw [hend he, State.judgeIdentity_invalid _ _ hkept hh ha]
        rfl
  · simp only [exec, execIdentityReadTimeout, h, State.advance_setPhase h]
    rfl

end Sys2Proof.Machine
end

section
/-! The lane-scope requests that only report a lane, and SET_LANE_OPTIONS (R46, R47, R62, R63, R92, R98, R111, R142). -/

namespace Sys2Proof.Machine

/-! ### Reports (R46, R111, R142) -/

/-- An observing lane-scope request of an allowed length is handled by its block. -/
theorem arrive_observing {s : State} (hs : s.hears) {ok : Nat → Bool} {handle : LaneId → Request → State → State}
    (hh : ∀ l rq, OneReply (handle l rq)) (o : Originator) (l : LaneId) (code tag : Byte) (body : List Byte)
    (hl : ok body.length = true) (hb : body.length ≤ 4096) :
    arrive ⟨o, laneByte l, code, tag, body⟩ (laneRequest .observing ok handle) s =
      handle l ⟨o, laneByte l, code, tag, body⟩ s := by
  rw [arrive_of_hears hs _ hb _ ((OneReply.laneRequest hh .observing ok _).rx s), laneRequest_observing _ _ _ _ _ _ _ _ hl]

/-- R142: an absent mean reads 0xFFFF. -/
theorem Figures.mean_getD (f : Figures) :
    f.mean.getD 0xFFFF = if f.samples = 0 then 0xFFFF else (f.sum + f.samples / 2) / f.samples := by
  unfold Figures.mean
  split <;> rfl

/-- Settles O27: each report is one reply, whose body is that of its block, field by field. -/
theorem reportsChangeNothing : Obligations.ReportsChangeNothing := by
  rintro s o l tag L hs rfl
  refine ⟨?_, ?_, ?_⟩
  · have ha := arrive_observing (ok := exactly 0) hs oneReply_laneStatus o l 0x13 tag [] rfl (by simp)
    simp only [exec, execLaneStatus, ha, handleLaneStatus, laneStatusBody]
    cases (s.lane l).claim <;> rfl
  · have ha := arrive_observing (ok := exactly 0) hs oneReply_laneIdentity o l 0x15 tag [] rfl (by simp)
    simp only [exec, execLaneIdentity, ha, handleLaneIdentity, identityBody]
    cases (s.lane l).link.identity <;> rfl
  · have ha := arrive_observing (ok := exactly 0) hs oneReply_readWindow o l 0x34 tag [] rfl (by simp)
    simp only [exec, execReadWindow, ha, handleReadWindow, readWindowBody]
    cases hr : (s.lane l).supply.result with
    | none => rfl
    | some r =>
      simp only [← Figures.mean_getD]
      cases hd : r.done <;> rfl

/-! ### SET_LANE_OPTIONS -/

/-- R47: the request is refused for a select bit above 12 or a selected on/off field above 1. -/
theorem optionsOk_iff (body : List Byte) : optionsOk body = true ↔
    u16At body 0 < 8192 ∧ (selects body 3 = true → byteAt body 7 ≤ 1) ∧ (selects body 9 = true → byteAt body 17 ≤ 1) ∧
      (selects body 10 = true → byteAt body 18 ≤ 1) ∧ (selects body 11 = true → byteAt body 19 ≤ 1) ∧
      (selects body 12 = true → byteAt body 20 ≤ 1) := by
  have himp (b : Bool) (n : Nat) : (!b || decide (n ≤ 1)) = true ↔ (b = true → n ≤ 1) := by cases b <;> simp
  simp only [optionsOk, optionFlags, List.all_cons, List.all_nil, Bool.and_true, Bool.and_eq_true, himp, decide_eq_true_eq]

/-- R92, R98: the pack fields have changed since `before`, and the queue is due under the ones in force. -/
def LaneState.ripe (before : LaneOptions) (L : LaneState) : Prop :=
  (L.options.packTimer ≠ before.packTimer ∨ L.options.packThreshold ≠ before.packThreshold) ∧
    L.upstream.queue ≠ [] ∧ packReady L.options L.upstream.queue = true

/-- R91, R92: a lane whose queue is due becomes eligible, and its pack timer stops. -/
theorem LaneState.evalPack_of_ripe {before : LaneOptions} {L : LaneState} (h : L.ripe before) :
    L.evalPack before = { L with upstream := { L.upstream with eligible := true, packTimer := none } } := by
  obtain ⟨hchanged, hdue⟩ := h
  rw [evalPack, if_neg (not_and_or.2 hchanged), evalEligible, if_pos hdue]
  rfl

/-- R92: nothing is evaluated where no pack field has changed, and a queue that is not due changes nothing. -/
theorem LaneState.evalPack_of_not_ripe {before : LaneOptions} {L : LaneState} (h : ¬ L.ripe before) :
    L.evalPack before = L := by
  unfold evalPack
  split
  · rfl
  · rename_i hchanged
    exact if_neg fun hdue => h ⟨not_and_or.1 hchanged, hdue⟩

/-- The evaluation of eligibility touches the upstream queue only. -/
theorem LaneState.evalPack_frame (before : LaneOptions) (L : LaneState) :
    L.evalPack before = { L with upstream := (L.evalPack before).upstream } := by
  by_cases h : L.ripe before
  · rw [evalPack_of_ripe h]
  · rw [evalPack_of_not_ripe h]

/-- R58: the high watermark sets the flag, the low one clears it, and between them it stays. -/
theorem LaneState.holdAfterOptions_eq (L : LaneState) : L.holdAfterOptions = { L with
    flowHeld := if L.options.high ≤ L.occupancy then true else if L.occupancy ≤ L.options.low then false else L.flowHeld } := by
  unfold LaneState.holdAfterOptions
  by_cases hh : L.options.high ≤ L.occupancy <;> by_cases hl : L.occupancy ≤ L.options.low <;> simp [hh, hl]

/-- R47, R63, R98: what an accepted request makes of the lane. -/
theorem LaneState.applyOptions_eq (body : List Byte) (L : LaneState) (n : LaneOptions)
    (hn : optionsAfter body L.occupancy L.options = n) : L.applyOptions body = { L with
      options := n
      upstream := (LaneState.evalPack L.options { L with options := n }).upstream
      flowHeld := if n.high ≤ L.occupancy then true else if L.occupancy ≤ n.low then false else L.flowHeld } := by
  subst hn
  rw [applyOptions, holdAfterOptions_eq, evalPack_frame]

/-- Settles O28: the checks are `optionsOk`, and an accepted request leaves the lane as `applyOptions_eq` says. -/
theorem setLaneOptionsClampsInOrder : Obligations.SetLaneOptionsClampsInOrder := by
  rintro s o l tag body L hs hp hlen rfl
  intro on fits cap high low n ripe
  have ha : exec (.setLaneOptions o (laneByte l) tag body) s = .next (handleSetLaneOptions l ⟨o, laneByte l, 0x16, tag, body⟩ s) :=
    congrArg Host.Outcome.next (arrive_laneRequest hs hp oneReply_setLaneOptions 0x16 tag body
      (decide_eq_true hlen) (by omega))
  have hn : optionsAfter body (s.lane l).occupancy (s.lane l).options = n := by
    simp only [optionsAfter, capAfter, highAfter, lowAfter, pick16, pick8, pickFlag, clamp, Nat.zero_max]
    rfl
  have hripe : LaneState.ripe (s.lane l).options { s.lane l with options := n } ↔ ripe :=
    and_congr Iff.rfl (and_congr Iff.rfl (packReady_iff n _))
  refine ⟨fun hf => ?_, fun hf =>
    ⟨(LaneState.evalPack (s.lane l).options { s.lane l with options := n }).upstream, fun hr => ?_, fun hr => ?_, ?_⟩⟩
  · rw [ha, handleSetLaneOptions, if_neg (fun h => hf ((optionsOk_iff body).1 h))]
    rfl
  · rw [LaneState.evalPack_of_ripe (hripe.2 hr)]
  · rw [LaneState.evalPack_of_not_ripe (fun h => hr (hripe.1 h))]
  · rw [ha, handleSetLaneOptions, if_pos ((optionsOk_iff body).2 hf), State.squeezeAfterOptions, State.squeezeAfterAdmission_eq,
      State.squeezeAfterRelease_eq, State.onLane_eq_setLane, LaneState.applyOptions_eq body _ n hn]
    rfl

end Sys2Proof.Machine
end

section
/-! LANE_RESET in closed form (R48, R80, R81): one lane, the replies and cells of its sends, LINK_DOWN where the link was UP, and
the squeeze, each said once. -/

namespace Sys2Proof.Machine

/-! ### Leaving squeeze, after a change of one lane -/

/-- What `leaveSqueeze` asks: 27 shared free cells or more. -/
def State.relieved (s : State) : Prop :=
  27 ≤ (2048 - s.downCells - 24 * s.reserve) - ((List.finRange 24).map fun l => (s.lane l).occupancy - s.reserve).sum

theorem State.leaveSqueeze_of_stays (s : State) (h : ¬ (s.squeezed = true ∧ s.relieved)) : s.leaveSqueeze = s := if_neg h
theorem State.leaveSqueeze_of_relieved (s : State) (h : s.squeezed = true ∧ s.relieved) :
    s.leaveSqueeze = ({ s with squeezed := false } : State).offerDevice .poolRelief := if_pos h

/-- R53: the borrowing of a lane follows its occupancy alone. -/
theorem State.relieved_setLane (s : State) (l : LaneId) (v : LaneState) (h : v.occupancy = (s.lane l).occupancy) :
    (s.setLane l v).relieved ↔ s.relieved := by
  have hk (k : LaneId) : ((s.setLane l v).lane k).occupancy = (s.lane k).occupancy := by
    by_cases hkl : l = k
    · rw [← hkl, State.lane_setLane_self, h]
    · rw [State.lane_setLane_ne _ _ hkl]
  simp only [State.relieved, hk, State.setLane_downCells, State.setLane_reserve]

theorem State.leaveSqueeze_setLane (s : State) (l : LaneId) (v : LaneState) (h : v.occupancy = (s.lane l).occupancy) :
    (s.setLane l v).leaveSqueeze = s.leaveSqueeze.setLane l v := by
  by_cases hr : s.squeezed = true ∧ s.relieved
  · have hv : (s.setLane l v).squeezed = true ∧ (s.setLane l v).relieved := ⟨hr.1, (s.relieved_setLane l v h).2 hr.2⟩
    rw [State.leaveSqueeze_of_relieved s hr, State.leaveSqueeze_of_relieved _ hv]
    rfl
  · have hv : ¬ ((s.setLane l v).squeezed = true ∧ (s.setLane l v).relieved) :=
      fun hv => hr ⟨hv.1, (s.relieved_setLane l v h).1 hv.2⟩
    rw [State.leaveSqueeze_of_stays s hr, State.leaveSqueeze_of_stays _ hv]

theorem State.leaveSqueeze_withAnswers (s : State) (replies : List Reply) (cells : Nat) :
    (s.withAnswers replies cells).leaveSqueeze = s.leaveSqueeze.withAnswers replies cells := by
  by_cases hr : s.squeezed = true ∧ s.relieved
  · rw [State.leaveSqueeze_of_relieved s hr, State.leaveSqueeze_of_relieved (s.withAnswers replies cells) hr]
    rfl
  · rw [State.leaveSqueeze_of_stays s hr, State.leaveSqueeze_of_stays (s.withAnswers replies cells) hr]

/-- R59: the squeeze and the event of its end are all that `leaveSqueeze` changes. -/
theorem State.leaveSqueeze_frame (s : State) : ∃ b q, s.leaveSqueeze = { s with squeezed := b, originators := q } := by
  by_cases hr : s.squeezed = true ∧ s.relieved
  · exact ⟨_, _, State.leaveSqueeze_of_relieved s hr⟩
  · exact ⟨_, _, State.leaveSqueeze_of_stays s hr⟩

theorem State.lane_leaveSqueeze (s : State) (l : LaneId) : s.leaveSqueeze.lane l = s.lane l := by
  obtain ⟨b, q, h⟩ := s.leaveSqueeze_frame
  rw [h]
  rfl

/-- R59: a squeezed pool leaves squeeze where it is relieved, and then only. -/
theorem State.squeezed_leaveSqueeze (s : State) (h : s.squeezed = true) : s.leaveSqueeze.squeezed = false ↔ s.relieved := by
  by_cases hr : s.relieved
  · rw [State.leaveSqueeze_of_relieved s ⟨h, hr⟩]
    exact iff_of_true rfl hr
  · rw [State.leaveSqueeze_of_stays s fun hv => hr hv.2]
    exact iff_of_false (by simp [h]) hr

/-- R59: POOL_RELIEF is offered where the pool leaves squeeze, and then only. -/
theorem State.originators_leaveSqueeze (s : State) :
    (s.leaveSqueeze.squeezed = s.squeezed → s.leaveSqueeze.originators = s.originators) ∧
      (s.leaveSqueeze.squeezed ≠ s.squeezed → s.leaveSqueeze.originators = (s.offerDevice .poolRelief).originators) := by
  by_cases hr : s.squeezed = true ∧ s.relieved
  · rw [State.leaveSqueeze_of_relieved s hr]
    exact ⟨fun h => absurd (h.trans hr.1) Bool.false_ne_true, fun _ => rfl⟩
  · rw [State.leaveSqueeze_of_stays s hr]
    exact ⟨fun _ => rfl, fun h => absurd rfl h⟩

/-! ### The parts of LANE_RESET -/

/-- R80: the lane without its sends. -/
def LaneState.sendsReset (L : LaneState) : LaneState := { L with link := { L.link with out := .idle }, send := ⟨[], false⟩ }

/-- R48: the link after a fresh attach is asked for, with the counts and the clearings gone. -/
def LaneState.linkReset (L : LaneState) : LaneState := { L with
  link := { L.link with
    state := L.reattached
    inn := if L.link.state = .up then .idle none else L.link.inn
    clearings := [], clearRetry := none, errorCount := 0, recovered := 0 } }

/-- R81: upstream queue, strokes and windows. -/
def LaneState.fixtureReset (L : LaneState) : LaneState := { L with
  upstream := { L.upstream with queue := [], packTimer := none, eligible := false, drops := 0 }
  occupancy := L.occupancy - recordCells L.upstream.queue
  flowHeld := if L.occupancy - recordCells L.upstream.queue ≤ L.options.low then false else L.flowHeld
  strokes := L.strokes.stop
  supply := { L.supply with active := .idle, staged := none, result := none } }

/-- R80: the records of the senders have taken the condition of the cancelled sends. -/
def LaneState.sendsRecorded (now : Stamp) (L : LaneState) : LaneState :=
  { L with sense := (L.sendsReset.recordSends now (L.sends.map fun r => (r, .laneReset))).sense }

/-- R80: the sends are cancelled like any others, on a lane that has none left. -/
theorem State.resetSends_eq (s : State) (l : LaneId) : s.resetSends l =
    (s.withAnswers ((s.lane l).sends.map fun r => r.reply l .check (shortSense .laneReset))
      ((s.lane l).sends.map SendRecord.cells).sum).setLane l ((s.lane l).sendsRecorded s.timebase).sendsReset := by
  have hd : s.resetSends l = (s.setLane l (s.lane l).sendsReset).cancelSends .laneReset l (s.lane l).sends := rfl
  have hr : (s.lane l).sendsReset.recordSends s.timebase ((s.lane l).sends.map fun r => (r, .laneReset)) =
      ((s.lane l).sendsRecorded s.timebase).sendsReset :=
    congrArg (fun K : LaneState => { K with
      sense := ((s.lane l).sendsReset.recordSends s.timebase ((s.lane l).sends.map fun r => (r, .laneReset))).sense })
      ((s.lane l).sendsReset.recordSends_frame s.timebase ((s.lane l).sends.map fun r => (r, .laneReset)))
  rw [hd, State.cancelSends_eq_checkSends, State.checkSends_eq, State.lane_setLane_self, State.withAnswers_setLane,
    State.setLane_setLane, List.map_map, List.map_map, ← hr]
  rfl

/-- R35: leaving UP on a lane that has no send. -/
theorem State.leaveUp_of_no_sends (s : State) (l : LaneId) (h : (s.lane l).sends = []) :
    s.leaveUp l = (s.offerLane .linkDown l).setLane l (s.lane l).dropped := by
  rw [State.leaveUp_eq, h]
  simp only [State.withAnswers, List.map_nil, List.append_nil, List.sum_nil, Nat.sub_zero]
  rfl

/-- R35, R48: LINK_DOWN is offered where the link was UP. -/
def State.offerDown (s : State) (l : LaneId) (L : LaneState) : State :=
  if L.link.state = .up then s.offerLane .linkDown l else s

/-- R48: on a lane without sends, the link's part changes the lane and offers LINK_DOWN from UP. -/
theorem State.linkLaneReset_setLane (s : State) (l : LaneId) (L : LaneState) (hc : L.claim = (s.lane l).claim) :
    (s.setLane l L.sendsReset).linkLaneReset l = (s.offerDown l L).setLane l L.sendsReset.linkReset := by
  have hv : (s.setLane l L.sendsReset).lane l = L.sendsReset := s.lane_setLane_self l _
  unfold State.linkLaneReset State.offerDown
  by_cases hu : L.link.state = .up
  · rw [State.linkReattach_up _ _ (by rw [hv]; exact hu), State.leaveUp_of_no_sends _ _ (by rw [hv]; rfl), hv,
      State.offerLane_setLane s .linkDown l L.sendsReset hc, if_pos hu]
    simp only [State.linkEnters, State.onLane_eq_setLane, State.setLane_setLane, State.lane_setLane_self]
    rw [LaneState.linkReset, if_pos (show L.sendsReset.link.state = .up from hu)]
    rfl
  · have hl : L.sendsReset.linkReset = { L.sendsReset with
        link := { L.sendsReset.link with
          state := L.sendsReset.reattached, clearings := [], clearRetry := none, errorCount := 0, recovered := 0 } } := by
      rw [LaneState.linkReset, if_neg (show ¬ L.sendsReset.link.state = .up from hu)]
    rw [if_neg hu, hl]
    by_cases hd : L.link.state = .disabled ∨ L.link.state = .vacant
    · have hr : L.sendsReset.reattached = L.sendsReset.link.state := by
        rcases hd with hd | hd <;> simp [LaneState.reattached, LaneState.sendsReset, hd]
      rw [State.linkReattach_at_rest _ _ (by rw [hv]; exact hd), State.onLane_eq_setLane, State.setLane_setLane, hv, hr]
      rfl
    · obtain ⟨hdis, hvac⟩ := not_or.1 hd
      rw [State.linkReattach_other _ _ (by rw [hv]; exact hdis) (by rw [hv]; exact hvac) (by rw [hv]; exact hu), hv]
      simp only [State.linkEnters, State.onLane_eq_setLane, State.setLane_setLane, State.lane_setLane_self]
      rfl

/-- R78, R81: the fixture's part. -/
theorem State.resetFixture_setLane (s : State) (l : LaneId) (v : LaneState) :
    (s.setLane l v).resetFixture l = (s.setLane l v.fixtureReset).leaveSqueeze := by
  simp only [State.resetFixture, State.discardUpstream, State.releaseUp_eq, State.onLane_eq_setLane, State.lane_setLane_self,
    State.setLane_setLane, State.lane_leaveSqueeze]
  rw [← State.leaveSqueeze_setLane _ _ _ (by rw [State.lane_setLane_self]), State.setLane_setLane]
  rfl

/-! ### The whole request -/

/-- R80, R81, R121: the lane after a LANE_RESET of `o`, at the time `now`. -/
def LaneState.laneReset (o : Originator) (now : Stamp) (L : LaneState) : LaneState :=
  (L.sendsRecorded now).sendsReset.linkReset.fixtureReset.onSense o Sense.clear

theorem State.offerDown_withAnswers (s : State) (replies : List Reply) (cells : Nat) (l : LaneId) (L : LaneState) :
    (s.withAnswers replies cells).offerDown l L = (s.offerDown l L).withAnswers replies cells := by
  unfold State.offerDown
  split
  · exact State.offerLane_withAnswers ..
  · rfl

theorem State.answer_withAnswers (s : State) (replies : List Reply) (cells : Nat) (rq : Request) (status : Status)
    (body : List Byte) :
    (s.withAnswers replies cells).answer rq status body = s.withAnswers (replies ++ [rq.reply status body]) cells := by
  simp only [State.withAnswers, State.answer, State.pushReply, List.append_assoc]

theorem State.answer_leaveSqueeze (s : State) (rq : Request) (status : Status) (body : List Byte) :
    s.leaveSqueeze.answer rq status body = (s.answer rq status body).leaveSqueeze := by
  have ha (t : State) : t.answer rq status body = t.withAnswers [rq.reply status body] 0 := rfl
  rw [ha, ha, State.leaveSqueeze_withAnswers]

/-- The replies of LANE_RESET: those of the sends, and the request's own. -/
def LaneState.resetReplies (rq : Request) (l : LaneId) (L : LaneState) : List Reply :=
  L.sends.map (fun r => r.reply l .check (shortSense .laneReset)) ++
    [rq.reply .good (le8 L.reattached.code ++ le8 L.sends.length)]

/-- R80, R81: LANE_RESET is one change of the lane, beside the events, the replies, the cells and the squeeze. -/
theorem handleLaneReset_eq (s : State) (l : LaneId) (rq : Request) : handleLaneReset l rq s =
    (((s.offerDown l (s.lane l)).withAnswers ((s.lane l).resetReplies rq l) ((s.lane l).sends.map SendRecord.cells).sum).setLane l
      ((s.lane l).laneReset rq.originator s.timebase)).leaveSqueeze := by
  have hbefore : ((s.resetSends l).linkLaneReset l).resetFixture l =
      (((s.offerDown l (s.lane l)).withAnswers ((s.lane l).sends.map fun r => r.reply l .check (shortSense .laneReset))
        ((s.lane l).sends.map SendRecord.cells).sum).setLane l
        ((s.lane l).sendsRecorded s.timebase).sendsReset.linkReset.fixtureReset).leaveSqueeze := by
    rw [State.resetSends_eq, State.linkLaneReset_setLane (s.withAnswers _ _) l ((s.lane l).sendsRecorded s.timebase) rfl,
      State.resetFixture_setLane,
      State.offerDown_withAnswers]
    rfl
  have hstate : ((s.lane l).sendsRecorded s.timebase).sendsReset.linkReset.fixtureReset.link.state = (s.lane l).reattached := rfl
  unfold handleLaneReset
  simp only [hbefore, State.lane_leaveSqueeze, State.lane_setLane_self, hstate]
  rw [State.goodLane, State.clearCondition, State.onLane_eq_setLane, State.lane_leaveSqueeze, State.lane_setLane_self,
    ← State.leaveSqueeze_setLane _ _ _ (by rw [State.lane_setLane_self]; rfl), State.setLane_setLane,
    State.answer_leaveSqueeze, ← State.withAnswers_setLane, State.answer_withAnswers]
  rfl

/-- R121: recording conditions, in any number, leaves the causes of a record. -/
theorem Sense.causes_foldl_record {α : Type} (c : Cond) (now : Stamp) (e : Option (BitVec 16)) (xs : List α) (r : Sense) :
    (xs.foldl (fun r _ => r.record c now e) r).causes = r.causes := by
  induction xs generalizing r with
  | nil => rfl
  | cons x xs ih => exact (ih _).trans (Sense.record_spec r c now e).1

theorem LaneState.sense_sendsRecorded (now : Stamp) (L : LaneState) (p : Originator) :
    (L.sendsRecorded now).sense[p] = (L.sends.filter fun r => r.sender = p).foldl
      (fun r _ => r.record .laneReset now (some L.link.epoch)) L.sense[p] :=
  LaneState.recordSends_sense_map now .laneReset L.sends L.sendsReset p

/-- R119: the other originators' records keep the conditions of their own sends. -/
theorem LaneState.sense_laneReset_ne (now : Stamp) (L : LaneState) {o p : Originator} (hp : p ≠ o) :
    (L.laneReset o now).sense[p] = (L.sends.filter fun r => r.sender = p).foldl
      (fun r _ => r.record .laneReset now (some L.link.epoch)) L.sense[p] := by
  rw [← LaneState.sense_sendsRecorded]
  exact LaneState.sense_onSense_ne _ _ hp.symm

/-- R121: the requester's record holds no condition after the GOOD reply. -/
theorem LaneState.sense_laneReset_self (now : Stamp) (L : LaneState) (o : Originator) :
    (L.laneReset o now).sense[o] = { L.sense[o] with held := none, further := 0 } := by
  have hs : (L.laneReset o now).sense[o] = Sense.clear ((L.sendsRecorded now).sense[o]) := LaneState.sense_onSense_self _ _ _
  have hc : ((L.sendsRecorded now).sense[o]).causes = (L.sense[o]).causes := by
    rw [LaneState.sense_sendsRecorded, Sense.causes_foldl_record]
  rw [hs, Sense.clear, hc]

/-- The state of LANE_RESET before the squeeze is evaluated. -/
def State.beforeRelief (s : State) (l : LaneId) (rq : Request) : State :=
  ((s.offerDown l (s.lane l)).withAnswers ((s.lane l).resetReplies rq l) ((s.lane l).sends.map SendRecord.cells).sum).setLane l
    ((s.lane l).laneReset rq.originator s.timebase)

theorem State.lane_beforeRelief_self (s : State) (l : LaneId) (rq : Request) :
    (s.beforeRelief l rq).lane l = (s.lane l).laneReset rq.originator s.timebase := State.lane_setLane_self ..

/-- Replies, cells, LINK_DOWN and the one lane are all that LANE_RESET touches before the squeeze is evaluated. -/
theorem State.beforeRelief_spec (s : State) (l : LaneId) (rq : Request) :
    { s.beforeRelief l rq with
        lanes := s.lanes, ready := s.ready, originators := s.originators, downHeld := s.downHeld } = s ∧
      (∀ k, k ≠ l → (s.beforeRelief l rq).lane k = s.lane k) ∧
      (s.beforeRelief l rq).ready = s.ready ++ (s.lane l).resetReplies rq l ∧
      (s.beforeRelief l rq).downHeld = s.downHeld - ((s.lane l).sends.map SendRecord.cells).sum ∧
      (s.beforeRelief l rq).originators = (s.offerDown l (s.lane l)).originators ∧
      ((s.beforeRelief l rq).offerDevice .poolRelief).originators =
        ((s.offerDown l (s.lane l)).offerDevice .poolRelief).originators ∧
      (s.beforeRelief l rq).squeezed = s.squeezed := by
  unfold State.beforeRelief State.offerDown
  split <;> exact ⟨rfl, fun k hk => State.lane_setLane_ne _ _ (Ne.symm hk), rfl, rfl, rfl, rfl, rfl⟩

/-- Settles O29: `handleLaneReset_eq`, read field by field. -/
theorem laneResetCleansOneLane : Obligations.LaneResetCleansOneLane := by
  rintro s o l tag L hs hp rfl
  have he : exec (.laneReset o (laneByte l) tag []) s = .next (s.beforeRelief l ⟨o, laneByte l, 0x17, tag, []⟩).leaveSqueeze :=
    congrArg Host.Outcome.next ((arrive_laneRequest hs hp oneReply_laneReset 0x17 tag [] rfl (by simp)).trans
      (handleLaneReset_eq ..))
  obtain ⟨hkeep, hlane, hready, hdown, hevents, hrelief, hsq⟩ := s.beforeRelief_spec l ⟨o, laneByte l, 0x17, tag, []⟩
  have hself := s.lane_beforeRelief_self l ⟨o, laneByte l, 0x17, tag, []⟩
  generalize s.beforeRelief l ⟨o, laneByte l, 0x17, tag, []⟩ = w at *
  have hK : w.leaveSqueeze.lane l = (s.lane l).laneReset o s.timebase := (w.lane_leaveSqueeze l).trans hself
  obtain ⟨b, q, hbq⟩ := w.leaveSqueeze_frame
  obtain ⟨hstays, hleaves⟩ := w.originators_leaveSqueeze
  refine ⟨_, _, he, hK, fun k hk => (w.lane_leaveSqueeze k).trans (hlane k hk), ?_, ?_, ?_, rfl, rfl, fun h => if_pos h,
    fun h => if_neg h, rfl, rfl, rfl, rfl, rfl, rfl, fun p hp => LaneState.sense_laneReset_ne _ _ hp,
    LaneState.sense_laneReset_self _ _ _, rfl, fun h => ?_, fun h => ?_, s.offerDown l (s.lane l), fun h => if_pos h,
    fun h => if_neg h, fun h => ?_, fun h => ?_⟩
  · rw [hbq, ← hsq]
    exact hkeep
  · rw [hbq]
    exact hready.trans (List.append_assoc ..).symm
  · rw [hbq]
    exact hdown
  · rw [State.leaveSqueeze_of_stays w (by simp [hsq, h]), hsq, h]
  · have hrelieved : w.leaveSqueeze.relieved ↔ w.relieved := by rw [hbq]; rfl
    exact (w.squeezed_leaveSqueeze (hsq.trans h)).trans hrelieved.symm
  · exact (hstays (h.trans hsq.symm)).trans hevents
  · exact (hleaves (fun hc => h (hc.trans hsq))).trans hrelief

end Sys2Proof.Machine
end

section
/-! The accounts of the packet memory (R49 to R54, R57, R62): the ledger, which is all that `LaneState.marksSound` and
`State.cellsSound` speak of, and the few moves that a command can make in it, each of which keeps both invariants. -/

namespace Sys2Proof.Machine

/-! ### The ledger -/

/-- What the accounts keep of a lane: its marks, its occupancy, and the cells of its sends and of its upstream queue. -/
structure LaneLedger where
  cap : Nat
  high : Nat
  low : Nat
  occupancy : Nat
  sends : Nat
  stored : Nat

/-- What the accounts keep of the part: the split and the downstream count, and for each lane the cells that the frame slots
hold of it and its own ledger. -/
structure Ledger where
  downCells : Nat
  reserve : Nat
  downHeld : Nat
  slots : LaneId → Nat
  lanes : LaneId → LaneLedger

/-- R50: the cells of a list of sends. -/
def sendCells (rs : List SendRecord) : Nat := (rs.map SendRecord.cells).sum

def LaneState.ledger (L : LaneState) : LaneLedger :=
  ⟨L.options.cap, L.options.high, L.options.low, L.occupancy, sendCells L.sends, recordCells L.upstream.queue⟩

def State.ledger (s : State) : Ledger :=
  ⟨s.downCells, s.reserve, s.downHeld, fun l => slotCells l s.transmitting + slotCells l s.staged, fun l => (s.lane l).ledger⟩

/-- `LaneState.marksSound`, in the ledger. -/
def LaneLedger.marksSound (x : LaneLedger) : Prop :=
  9 ≤ x.high ∧ x.high ≤ x.cap ∧ x.low + 9 ≤ x.high ∧ x.occupancy ≤ x.cap

/-- R53: what a lane borrows. -/
def LaneLedger.borrows (reserve : Nat) (x : LaneLedger) : Nat := x.occupancy - reserve

/-- `State.cellsSound`, in the ledger. -/
structure Ledger.cellsSound (a : Ledger) : Prop where
  down_le : a.downCells ≤ 2048
  reserve_le : 24 * a.reserve ≤ 2048 - a.downCells
  held_eq : a.downHeld = ∑ l, (a.lanes l).sends
  held_le : a.downHeld ≤ a.downCells
  occupancy_eq : ∀ l, (a.lanes l).occupancy = (a.lanes l).stored + a.slots l
  borrows_le : ∑ l, (a.lanes l).borrows a.reserve ≤ 2048 - a.downCells - 24 * a.reserve

theorem LaneState.marksSound_iff (L : LaneState) : L.marksSound ↔ L.ledger.marksSound := Iff.rfl

theorem State.cellsSound_iff (s : State) : s.cellsSound ↔ s.ledger.cellsSound := by
  unfold State.cellsSound
  simp only [← Fin.sum_univ_def, Nat.add_assoc]
  exact ⟨fun ⟨h1, h2, h3, h4, h5, h6⟩ => ⟨h1, h2, h3, h4, h5, h6⟩, fun ⟨h1, h2, h3, h4, h5, h6⟩ => ⟨h1, h2, h3, h4, h5, h6⟩⟩

/-! ### One lane -/

/-- The ledger with another entry for one lane. -/
def Ledger.setLane (a : Ledger) (l : LaneId) (x : LaneLedger) : Ledger := { a with lanes := Function.update a.lanes l x }

@[simp] theorem Ledger.lanes_setLane_self (a : Ledger) (l : LaneId) (x : LaneLedger) : (a.setLane l x).lanes l = x :=
  Function.update_self ..
theorem Ledger.lanes_setLane_ne (a : Ledger) {l k : LaneId} (x : LaneLedger) (h : k ≠ l) :
    (a.setLane l x).lanes k = a.lanes k := Function.update_of_ne h ..

/-- A property of every entry, after one has been replaced. -/
theorem Ledger.forall_setLane {a : Ledger} {l : LaneId} {x : LaneLedger} {P : LaneId → LaneLedger → Prop} (hx : P l x)
    (h : ∀ k, P k (a.lanes k)) (k : LaneId) : P k ((a.setLane l x).lanes k) := by
  by_cases hk : k = l
  · subst hk; rwa [Ledger.lanes_setLane_self]
  · rw [Ledger.lanes_setLane_ne _ _ hk]; exact h k

/-- A sum over the lanes, after one entry has been replaced. -/
theorem Ledger.sum_setLane (a : Ledger) (l : LaneId) (x : LaneLedger) (g : LaneLedger → Nat) :
    ∑ k, g ((a.setLane l x).lanes k) + g (a.lanes l) = ∑ k, g (a.lanes k) + g x := by
  have hother : ∑ k ∈ Finset.univ.erase l, g ((a.setLane l x).lanes k) = ∑ k ∈ Finset.univ.erase l, g (a.lanes k) :=
    Finset.sum_congr rfl fun k hk => by rw [Ledger.lanes_setLane_ne _ _ (Finset.ne_of_mem_erase hk)]
  have hl := Finset.mem_univ l
  rw [← Finset.add_sum_erase _ (fun k => g ((a.setLane l x).lanes k)) hl, ← Finset.add_sum_erase _ (fun k => g (a.lanes k)) hl,
    hother, Ledger.lanes_setLane_self]
  omega

/-! ### What keeps both invariants -/

/-- A change of the ledger that keeps the marks in order and the counts true. -/
structure Ledger.Keeps (a b : Ledger) : Prop where
  marks : (∀ l, (a.lanes l).marksSound) → ∀ l, (b.lanes l).marksSound
  cells : a.cellsSound → b.cellsSound

theorem Ledger.Keeps.of_eq {a b : Ledger} (h : b = a) : a.Keeps b := h ▸ ⟨id, id⟩
theorem Ledger.Keeps.trans {a b c : Ledger} (h : a.Keeps b) (k : b.Keeps c) : a.Keeps c :=
  ⟨k.marks ∘ h.marks, k.cells ∘ h.cells⟩

/-- R54: `c` cells are admitted on a lane by both tests. -/
theorem Ledger.keeps_admission (a : Ledger) (l : LaneId) (c : Nat) (hcap : (a.lanes l).occupancy + c ≤ (a.lanes l).cap)
    (hfree : ((a.lanes l).occupancy + c - a.reserve) - (a.lanes l).borrows a.reserve ≤
      (2048 - a.downCells - 24 * a.reserve) - ∑ k, (a.lanes k).borrows a.reserve) :
    a.Keeps (a.setLane l { a.lanes l with
      occupancy := (a.lanes l).occupancy + c, stored := (a.lanes l).stored + c }) := by
  generalize hx : ({ a.lanes l with
    occupancy := (a.lanes l).occupancy + c, stored := (a.lanes l).stored + c } : LaneLedger) = x
  refine ⟨fun h => Ledger.forall_setLane (P := fun _ => LaneLedger.marksSound) ?_ h, fun h => ⟨h.down_le, h.reserve_le, ?_,
    h.held_le, Ledger.forall_setLane (P := fun k x => x.occupancy = x.stored + a.slots k) ?_ h.occupancy_eq, ?_⟩⟩
  · obtain ⟨hhigh, hle, hlow, -⟩ := h l
    exact hx ▸ ⟨hhigh, hle, hlow, hcap⟩
  · have hsends := a.sum_setLane l x LaneLedger.sends
    rw [← hx] at hsends ⊢
    exact h.held_eq.trans (Nat.add_right_cancel hsends).symm
  · have := h.occupancy_eq l
    rw [← hx]
    dsimp only
    omega
  · have hsum := a.sum_setLane l x (LaneLedger.borrows a.reserve)
    have hle := h.borrows_le
    have hb : x.borrows a.reserve = (a.lanes l).occupancy + c - a.reserve := by rw [← hx]; rfl
    have hmore : (a.lanes l).borrows a.reserve ≤ (a.lanes l).occupancy + c - a.reserve := by
      unfold LaneLedger.borrows; omega
    show ∑ k, ((a.setLane l x).lanes k).borrows a.reserve ≤ 2048 - a.downCells - 24 * a.reserve
    omega

/-- R57, R93: upstream cells move between the queues and the frame slots, or are released, each on its own lane. -/
theorem Ledger.keeps_release {a b : Ledger} (released : LaneId → Nat) (hd : b.downCells = a.downCells)
    (hr : b.reserve = a.reserve) (hh : b.downHeld = a.downHeld)
    (hl : ∀ k, b.lanes k = { a.lanes k with
      occupancy := (a.lanes k).occupancy - released k, stored := (b.lanes k).stored })
    (hc : ∀ k, (a.lanes k).stored + a.slots k = (b.lanes k).stored + b.slots k + released k) : a.Keeps b := by
  have hocc (k : LaneId) : (b.lanes k).occupancy = (a.lanes k).occupancy - released k := by rw [hl]
  have hsends (k : LaneId) : (b.lanes k).sends = (a.lanes k).sends := by rw [hl]
  refine ⟨fun h k => ?_, fun h => ⟨hd ▸ h.down_le, hd ▸ hr ▸ h.reserve_le, ?_, hh ▸ hd ▸ h.held_le, fun k => ?_, ?_⟩⟩
  · obtain ⟨hhigh, hle, hlow, hcap⟩ := h k
    rw [hl]
    exact ⟨hhigh, hle, hlow, (Nat.sub_le ..).trans hcap⟩
  · simp only [hh, hsends, h.held_eq]
  · have := h.occupancy_eq k
    have := hc k
    have := hocc k
    omega
  · rw [hd, hr]
    refine le_trans (Finset.sum_le_sum fun k _ => ?_) h.borrows_le
    rw [LaneLedger.borrows, LaneLedger.borrows, hocc]
    omega

/-- A change of the downstream count and of one lane that leaves its upstream cells, and after which the count is that of the
sends again. -/
theorem Ledger.cellsSound.setSends {a : Ledger} (h : a.cellsSound) (l : LaneId) (x : LaneLedger) (n : Nat)
    (hocc : x.occupancy = (a.lanes l).occupancy) (hst : x.stored = (a.lanes l).stored)
    (hn : n + (a.lanes l).sends = a.downHeld + x.sends) (hle : n ≤ a.downCells) :
    ({ a with downHeld := n }.setLane l x).cellsSound := by
  have hsends := a.sum_setLane l x LaneLedger.sends
  have hsum := a.sum_setLane l x (LaneLedger.borrows a.reserve)
  have hb : x.borrows a.reserve = (a.lanes l).borrows a.reserve := by rw [LaneLedger.borrows, hocc]; rfl
  refine ⟨h.down_le, h.reserve_le, ?_, hle,
    Ledger.forall_setLane (P := fun k x => x.occupancy = x.stored + a.slots k) ?_ h.occupancy_eq, ?_⟩
  · have := h.held_eq
    show n = ∑ k, ((a.setLane l x).lanes k).sends
    omega
  · rw [hocc, hst, h.occupancy_eq]
  · rw [hb] at hsum
    exact (Nat.add_right_cancel hsum).trans_le h.borrows_le

/-- R51: `c` downstream cells are taken for a send that joins a lane. -/
theorem Ledger.keeps_take (a : Ledger) (l : LaneId) (c : Nat) (h : a.downHeld + c ≤ a.downCells) :
    a.Keeps ({ a with downHeld := a.downHeld + c }.setLane l { a.lanes l with sends := (a.lanes l).sends + c }) where
  marks hm := Ledger.forall_setLane (P := fun _ => LaneLedger.marksSound) (hm l) hm
  cells hc := hc.setSends l { a.lanes l with sends := (a.lanes l).sends + c } _ rfl rfl (by dsimp only; omega) h

/-- R52: `c` of the downstream cells that the sends of a lane hold are released, and those sends end. -/
theorem Ledger.keeps_end (a : Ledger) (l : LaneId) (rest c : Nat) (h : rest + c = (a.lanes l).sends) :
    a.Keeps ({ a with downHeld := a.downHeld - c }.setLane l { a.lanes l with sends := rest }) where
  marks hm := Ledger.forall_setLane (P := fun _ => LaneLedger.marksSound) (hm l) hm
  cells hc := by
    have hheld : (a.lanes l).sends ≤ a.downHeld :=
      hc.held_eq ▸ Finset.single_le_sum (f := fun k => (a.lanes k).sends) (fun _ _ => Nat.zero_le _) (Finset.mem_univ l)
    exact hc.setSends l { a.lanes l with sends := rest } _ rfl rfl (by dsimp only; omega) ((Nat.sub_le ..).trans hc.held_le)

/-- R62: the marks of a lane are set, in order and above its occupancy. -/
theorem Ledger.keeps_marks (a : Ledger) (l : LaneId) (cap high low : Nat)
    (h : (a.lanes l).marksSound → LaneLedger.marksSound { a.lanes l with cap := cap, high := high, low := low }) :
    a.Keeps (a.setLane l { a.lanes l with cap := cap, high := high, low := low }) where
  marks hm := Ledger.forall_setLane (P := fun _ => LaneLedger.marksSound) (h (hm l)) hm
  cells hc := hc.setSends l { a.lanes l with cap := cap, high := high, low := low } _ rfl rfl rfl hc.held_le

/-- Nothing is stored: no send, no packet in a queue, none in a frame slot. -/
def Ledger.unused (a : Ledger) : Prop := ∀ l, (a.lanes l).sends = 0 ∧ (a.lanes l).stored = 0 ∧ a.slots l = 0

/-- R61: a split that leaves each lane its reserve is applied to a memory that is wholly free. -/
theorem Ledger.keeps_split (a : Ledger) (d g : Nat) (hu : a.unused) (hd : d ≤ 2048) (hg : 24 * g ≤ 2048 - d) :
    a.Keeps { a with downCells := d, reserve := g } where
  marks := id
  cells h := by
    have hocc (l : LaneId) : (a.lanes l).occupancy = 0 := by
      obtain ⟨-, hq, hs⟩ := hu l
      rw [h.occupancy_eq, hq, hs]
    have hheld : a.downHeld = 0 := h.held_eq.trans (Finset.sum_eq_zero fun l _ => (hu l).1)
    refine ⟨hd, hg, h.held_eq, hheld ▸ Nat.zero_le _, h.occupancy_eq, ?_⟩
    rw [Finset.sum_eq_zero fun l _ => by rw [LaneLedger.borrows, hocc, Nat.zero_sub]]
    exact Nat.zero_le _

end Sys2Proof.Machine
end

section
/-! What every shared operation does to the ledger of the packet memory (R49 to R54, R57, R62), in the order of the model's
files: most leave it as it is, and the others make one of its moves. -/

namespace Sys2Proof.Machine

/-! ### Lanes -/

@[simp] theorem Ledger.setLane_setLane (a : Ledger) (l : LaneId) (x y : LaneLedger) :
    (a.setLane l x).setLane l y = a.setLane l y :=
  congrArg (fun lanes => ({ a with lanes := lanes } : Ledger)) (Function.update_idem ..)

theorem State.ledger_onLane (s : State) (l : LaneId) (f : LaneState → LaneState) :
    (s.onLane l f).ledger = s.ledger.setLane l (f (s.lane l)).ledger := by
  have hl : (fun k => ((s.onLane l f).lane k).ledger) = Function.update (fun k => (s.lane k).ledger) l (f (s.lane l)).ledger := by
    funext k
    by_cases hk : k = l
    · subst hk; simp
    · rw [State.lane_onLane_ne _ _ (Ne.symm hk), Function.update_of_ne hk]
  exact congrArg (fun lanes => ({ s.ledger with lanes := lanes } : Ledger)) hl

/-- A change of one lane that leaves its ledger. -/
theorem State.ledger_onLane_same (s : State) (l : LaneId) (f : LaneState → LaneState)
    (h : (f (s.lane l)).ledger = (s.lane l).ledger) : (s.onLane l f).ledger = s.ledger := by
  rw [State.ledger_onLane, h]
  exact congrArg (fun lanes => ({ s.ledger with lanes := lanes } : Ledger)) (Function.update_eq_self ..)

/-- A change of the link that leaves the send in flight. -/
theorem State.ledger_onLink (s : State) (l : LaneId) (f : LaneState → Link → Link)
    (h : (f (s.lane l) (s.lane l).link).out.flight = (s.lane l).link.out.flight) :
    (s.onLane l fun L => L.onLink (f L)).ledger = s.ledger :=
  s.ledger_onLane_same l _ (by simp only [LaneState.ledger, LaneState.sends, LaneState.onLink, h])

@[simp] theorem State.ledger_onSupply (s : State) (l : LaneId) (f : LaneState → Supply → Supply) :
    (s.onLane l fun L => L.onSupply (f L)).ledger = s.ledger := s.ledger_onLane_same l _ rfl
@[simp] theorem State.ledger_onStrokes (s : State) (l : LaneId) (f : LaneState → Strokes → Strokes) :
    (s.onLane l fun L => L.onStrokes (f L)).ledger = s.ledger := s.ledger_onLane_same l _ rfl

/-! ### Ops.lean: time, events, sense records, replies, the end of a send -/

@[simp] theorem State.ledger_advance (s : State) (d : Nat) : (s.advance d).ledger = s.ledger := by
  have hl : (fun k => ((s.advance d).lane k).ledger) = fun k => (s.lane k).ledger := by
    funext k
    rw [State.lane_advance]
    simp only [LaneState.ledger, LaneState.sends, LaneState.pass, Link.pass, OutEngine.flight_pass]
  exact congrArg (fun lanes => ({ s.ledger with lanes := lanes } : Ledger)) hl

@[simp] theorem State.ledger_onOriginator (s : State) (o : Originator) (f : OriginatorState → OriginatorState) :
    (s.onOriginator o f).ledger = s.ledger := rfl
@[simp] theorem State.ledger_offerLane (s : State) (k : EventKind) (l : LaneId) : (s.offerLane k l).ledger = s.ledger := rfl
@[simp] theorem State.ledger_offerDevice (s : State) (k : EventKind) : (s.offerDevice k).ledger = s.ledger := rfl
@[simp] theorem State.ledger_recordLane (s : State) (c : Cond) (o : Originator) (l : LaneId) :
    (s.recordLane c o l).ledger = s.ledger := s.ledger_onLane_same l _ rfl
@[simp] theorem State.ledger_recordDevice (s : State) (c : Cond) (o : Originator) :
    (s.recordDevice c o).ledger = s.ledger := rfl
@[simp] theorem State.ledger_recordAsync (s : State) (c : Cond) (l : LaneId) : (s.recordAsync c l).ledger = s.ledger := by
  cases h : (s.lane l).claim with
  | none => rw [State.recordAsync_free _ _ _ h]
  | some k => rw [State.recordAsync_held _ _ _ _ h, State.ledger_recordLane]
@[simp] theorem State.ledger_setAttention (s : State) (cause : BitVec 8) (l : LaneId) :
    (s.setAttention cause l).ledger = s.ledger := s.ledger_onLane_same l _ rfl
@[simp] theorem State.ledger_clearCondition (s : State) (o : Originator) (l : LaneId) :
    (s.clearCondition o l).ledger = s.ledger := s.ledger_onLane_same l _ rfl
@[simp] theorem State.ledger_clearAttention (s : State) (o : Originator) (l : LaneId) :
    (s.clearAttention o l).ledger = s.ledger := s.ledger_onLane_same l _ rfl
@[simp] theorem State.ledger_pushReply (s : State) (r : Reply) : (s.pushReply r).ledger = s.ledger := rfl
@[simp] theorem State.ledger_answer (s : State) (rq : Request) (st : Status) (body : List Byte) :
    (s.answer rq st body).ledger = s.ledger := rfl

/-- R52: `n` downstream cells are released. -/
def Ledger.release (n : Nat) (a : Ledger) : Ledger := { a with downHeld := a.downHeld - n }

theorem Ledger.release_release (a : Ledger) (m n : Nat) : (a.release m).release n = a.release (m + n) := by
  simp only [Ledger.release, Nat.sub_sub]

@[simp] theorem State.ledger_releaseDown (s : State) (n : Nat) : (s.releaseDown n).ledger = s.ledger.release n := rfl
@[simp] theorem State.ledger_endSendCheck (s : State) (c : Cond) (l : LaneId) (r : SendRecord) :
    (s.endSendCheck c l r).ledger = s.ledger.release r.cells := by simp [State.endSendCheck]
@[simp] theorem State.ledger_endSendGood (s : State) (n : Nat) (l : LaneId) (r : SendRecord) :
    (s.endSendGood n l r).ledger = s.ledger.release r.cells := by simp [State.endSendGood]

@[simp] theorem sendCells_cons (r : SendRecord) (rs : List SendRecord) : sendCells (r :: rs) = r.cells + sendCells rs :=
  List.sum_cons
@[simp] theorem sendCells_append (rs qs : List SendRecord) : sendCells (rs ++ qs) = sendCells rs + sendCells qs := by
  simp [sendCells]

@[simp] theorem State.ledger_cancelSends (c : Cond) (l : LaneId) (rs : List SendRecord) (s : State) :
    (s.cancelSends c l rs).ledger = s.ledger.release (sendCells rs) := by
  unfold State.cancelSends
  induction rs generalizing s with
  | nil => rfl
  | cons r rs ih => rw [List.foldl_cons, ih, State.ledger_endSendCheck, Ledger.release_release, sendCells_cons]
@[simp] theorem State.ledger_cancelChain (l : LaneId) (rs : List SendRecord) (k : Nat) (s : State) :
    (s.cancelChain l k rs).ledger = s.ledger.release (sendCells rs) := by
  induction rs generalizing k s with
  | nil => rfl
  | cons r rs ih => rw [State.cancelChain, ih, State.ledger_endSendCheck, Ledger.release_release, sendCells_cons]

/-- R74: the chain and the records behind it are the whole queue. -/
theorem splitChain_cells (rs : List SendRecord) : sendCells (splitChain rs).1 + sendCells (splitChain rs).2 = sendCells rs := by
  induction rs with
  | nil => rfl
  | cons r rs ih =>
    by_cases h : r.chain = true
    · simp only [splitChain, h, if_true, sendCells_cons]; omega
    · simp [splitChain, h, sendCells]

/-- R52, R70: some sends of a lane end: they leave the lane, and their cells are released. -/
theorem State.keeps_endSends {s t : State} {l : LaneId} {f : LaneState → LaneState} (rest c : Nat)
    (hf : (f (s.lane l)).ledger = { (s.lane l).ledger with sends := rest }) (hc : rest + c = sendCells (s.lane l).sends)
    (ht : t.ledger = (s.onLane l f).ledger.release c) : s.ledger.Keeps t.ledger := by
  rw [ht, State.ledger_onLane, hf]
  exact s.ledger.keeps_end l rest c hc

/-- R35: every send of a lane ends. -/
theorem State.keeps_endAll {s t : State} {l : LaneId} {f : LaneState → LaneState}
    (hf : (f (s.lane l)).ledger = { (s.lane l).ledger with sends := 0 })
    (ht : t.ledger = (s.onLane l f).ledger.release (sendCells (s.lane l).sends)) : s.ledger.Keeps t.ledger :=
  State.keeps_endSends 0 _ hf (Nat.zero_add _) ht

/-! ### LaneBus.lean, Flags.lean: toggles, squeeze, the upstream queue -/

@[simp] theorem State.ledger_tookOut (s : State) (l : LaneId) : (s.tookOut l).ledger = s.ledger := s.ledger_onLane_same l _ rfl
@[simp] theorem State.ledger_tookIn (s : State) (l : LaneId) : (s.tookIn l).ledger = s.ledger := s.ledger_onLane_same l _ rfl
@[simp] theorem State.ledger_squeezeAfterAdmission (s : State) : s.squeezeAfterAdmission.ledger = s.ledger := by
  unfold State.squeezeAfterAdmission; split <;> rfl
@[simp] theorem State.ledger_squeezeAfterRelease (s : State) : s.squeezeAfterRelease.ledger = s.ledger := by
  unfold State.squeezeAfterRelease; split <;> rfl
@[simp] theorem State.ledger_squeezeAfterOptions (s : State) : s.squeezeAfterOptions.ledger = s.ledger := by
  simp [State.squeezeAfterOptions]
@[simp] theorem State.ledger_releaseUp (s : State) (n : Nat) (l : LaneId) : (s.releaseUp n l).ledger =
    s.ledger.setLane l { (s.lane l).ledger with occupancy := (s.lane l).occupancy - n } := by
  rw [State.releaseUp, State.ledger_squeezeAfterRelease, State.ledger_onLane]
  rfl

/-- R57, R93: the upstream cells of one lane change, in its queue, in the frame slots, or by a release. -/
theorem State.keeps_release {s : State} {b : Ledger} (l : LaneId) (slots : LaneId → Nat) (stored released : Nat)
    (hb : b = { s.ledger with slots := slots }.setLane l { (s.lane l).ledger with
      occupancy := (s.lane l).occupancy - released, stored := stored })
    (hc : recordCells (s.lane l).upstream.queue + s.ledger.slots l = stored + slots l + released)
    (hk : ∀ k, k ≠ l → slots k = s.ledger.slots k) : s.ledger.Keeps b := by
  subst hb
  refine Ledger.keeps_release (fun k => if k = l then released else 0) rfl rfl rfl (fun k => ?_) fun k => ?_ <;>
    by_cases hkl : k = l
  · subst hkl; rw [Ledger.lanes_setLane_self, if_pos rfl]; rfl
  · rw [Ledger.lanes_setLane_ne _ _ hkl, if_neg hkl]; rfl
  · subst hkl; rw [Ledger.lanes_setLane_self, if_pos rfl]; exact hc
  · rw [Ledger.lanes_setLane_ne _ _ hkl, if_neg hkl]
    exact congrArg (_ + ·) (hk k hkl).symm

/-- R78: the whole queue is discarded. -/
theorem State.keeps_discardUpstream (s : State) (l : LaneId) : s.ledger.Keeps (s.discardUpstream l).ledger := by
  refine State.keeps_release l s.ledger.slots 0 (recordCells (s.lane l).upstream.queue) ?_ (by omega) fun _ _ => rfl
  rw [State.discardUpstream, State.ledger_releaseUp, State.ledger_onLane, State.lane_onLane_self, Ledger.setLane_setLane]
  rfl

/-! ### Windows.lean -/

@[simp] theorem State.ledger_endWindow (s : State) (done : Bool) (p : WindowParams) (f : Figures) (l : LaneId) :
    (s.endWindow done p f l).ledger = s.ledger := by rw [State.endWindow, State.ledger_offerLane, State.ledger_onSupply]
@[simp] theorem State.ledger_abortOnTrip (s : State) (l : LaneId) : (s.abortOnTrip l).ledger = s.ledger := by
  unfold State.abortOnTrip; split <;> simp
@[simp] theorem State.ledger_abortOnEmptied (s : State) (l : LaneId) : (s.abortOnEmptied l).ledger = s.ledger := by
  unfold State.abortOnEmptied; split <;> simp
@[simp] theorem State.ledger_windowSample (s : State) (v : Nat) (l : LaneId) : (s.windowSample v l).ledger = s.ledger := by
  unfold State.windowSample
  split
  · rw [State.ledger_onSupply]
  · split <;> simp
  · rfl
@[simp] theorem State.ledger_trip (s : State) (v : Nat) (l : LaneId) : (s.trip v l).ledger = s.ledger := by simp [State.trip]
@[simp] theorem State.ledger_tripSample (s : State) (v : Nat) (l : LaneId) : (s.tripSample v l).ledger = s.ledger := by
  unfold State.tripSample
  dsimp only
  split <;> simp

/-! ### LinkOps.lean -/

@[simp] theorem State.ledger_setLinkState (s : State) (k : LinkState) (l : LaneId) : (s.setLinkState k l).ledger = s.ledger :=
  s.ledger_onLink l _ rfl
@[simp] theorem State.ledger_enterAttaching (s : State) (l : LaneId) : (s.enterAttaching l).ledger = s.ledger :=
  s.ledger_onLink l _ rfl
@[simp] theorem State.ledger_enterWaiting (s : State) (l : LaneId) : (s.enterWaiting l).ledger = s.ledger := by
  unfold State.enterWaiting; split <;> simp
@[simp] theorem State.ledger_zeroErrors (s : State) (l : LaneId) : (s.zeroErrors l).ledger = s.ledger :=
  s.ledger_onLink l _ rfl
@[simp] theorem State.ledger_attachFails (s : State) (n : Nat) (l : LaneId) : (s.attachFails n l).ledger = s.ledger := by
  simp [State.attachFails]
@[simp] theorem State.ledger_attachSucceeds (s : State) (id : Identity) (l : LaneId) :
    (s.attachSucceeds id l).ledger = s.ledger := by
  have hu (t : State) : (t.onLane l fun L => L.onUpstream fun u => { u with seq := 0, firstPending := true }).ledger =
      t.ledger := t.ledger_onLane_same l _ rfl
  rw [State.attachSucceeds, State.ledger_onSupply, hu, State.ledger_offerLane, State.ledger_setAttention]
  exact s.ledger_onLink l _ rfl
@[simp] theorem State.ledger_linkNestSeated (s : State) (l : LaneId) : (s.linkNestSeated l).ledger = s.ledger := by
  unfold State.linkNestSeated; split <;> simp
@[simp] theorem State.ledger_linkConnect (s : State) (l : LaneId) : (s.linkConnect l).ledger = s.ledger := by
  unfold State.linkConnect; split <;> simp
@[simp] theorem State.ledger_linkOn (s : State) (l : LaneId) : (s.linkOn l).ledger = s.ledger := by
  unfold State.linkOn
  split
  · split <;> simp
  · rfl

/-- R35: a link that leaves UP ends every send. -/
theorem State.keeps_leaveUp (s : State) (l : LaneId) : s.ledger.Keeps (s.leaveUp l).ledger :=
  State.keeps_endAll (l := l) rfl (by rw [State.leaveUp, State.ledger_offerLane, State.ledger_cancelSends])

/-- A state that the link enters after leaving UP, or without it. -/
theorem State.keeps_leaveUp_eq {s t : State} {l : LaneId} (h : t.ledger = (s.leaveUp l).ledger) : s.ledger.Keeps t.ledger :=
  h ▸ s.keeps_leaveUp l

theorem State.keeps_linkFault (s : State) (e : Nat) (l : LaneId) : s.ledger.Keeps (s.linkFault e l).ledger := by
  rw [State.linkFault, State.ledger_enterAttaching]
  exact (Ledger.Keeps.of_eq (s.ledger_recordAsync _ l)).trans (State.keeps_leaveUp _ l)
theorem State.keeps_linkNestEmptied (s : State) (l : LaneId) : s.ledger.Keeps (s.linkNestEmptied l).ledger := by
  unfold State.linkNestEmptied
  dsimp only
  rw [State.ledger_onLink _ _ _ rfl]
  split
  case h_5 => exact State.keeps_leaveUp_eq (l := l) (by simp)
  all_goals exact .of_eq (by simp)
theorem State.keeps_linkDisconnect (s : State) (l : LaneId) : s.ledger.Keeps (s.linkDisconnect l).ledger := by
  unfold State.linkDisconnect
  split
  · exact .of_eq (by simp)
  · exact State.keeps_leaveUp_eq (l := l) (by simp)
  · exact .of_eq (by simp)
  · exact .of_eq rfl
theorem State.keeps_linkReattach (s : State) (l : LaneId) : s.ledger.Keeps (s.linkReattach l).ledger := by
  unfold State.linkReattach
  split
  case h_5 => exact State.keeps_leaveUp_eq (l := l) (by simp)
  all_goals exact .of_eq (by simp)
theorem State.keeps_linkOff (s : State) (l : LaneId) : s.ledger.Keeps (s.linkOff l).ledger := by
  unfold State.linkOff
  split
  · exact State.keeps_leaveUp_eq (l := l) (by simp)
  · exact .of_eq (by simp)
theorem State.keeps_linkLaneReset (s : State) (l : LaneId) : s.ledger.Keeps (s.linkLaneReset l).ledger := by
  rw [State.linkLaneReset, State.ledger_onLink _ _ _ rfl]
  exact s.keeps_linkReattach l

/-- R36, R37: at the attempt limit a link fault, and otherwise what `go` makes of the lane with its error counted. -/
theorem State.keeps_transportError (s : State) (e : Nat) (l : LaneId) (go : State → State)
    (h : ∀ t : State, t.ledger = s.ledger → (t.lane l).link.out = (s.lane l).link.out → s.ledger.Keeps (go t).ledger) :
    s.ledger.Keeps (s.transportError e l go).ledger := by
  have ht : (s.onLane l fun L => L.onLink fun n => { n with errorCount := n.errorCount + 1 }).ledger = s.ledger :=
    s.ledger_onLink l _ rfl
  unfold State.transportError
  dsimp only
  split
  · exact (Ledger.Keeps.of_eq ht).trans (State.keeps_linkFault _ e l)
  · exact h _ ht (by simp)

/-! ### Collector.lean -/

@[simp] theorem State.ledger_overrun (s : State) (seq : BitVec 16) (l : LaneId) : (s.overrun seq l).ledger = s.ledger := by
  rw [State.overrun, State.ledger_offerLane, State.ledger_recordAsync]
  exact s.ledger_onLane_same l _ rfl

theorem LaneState.ledger_recordsJoined (before : List PacketRecord) (L : LaneState) :
    (L.recordsJoined before).ledger = L.ledger := by
  unfold LaneState.recordsJoined LaneState.evalEligible
  split_ifs <;> rfl

theorem recordCells_append (ps qs : List PacketRecord) : recordCells (ps ++ qs) = recordCells ps + recordCells qs := by
  simp [recordCells]

/-- R54, R89: an admitted packet takes its cells. -/
theorem LaneState.ledger_takeIn (p : PacketRecord) (L : LaneState) : (L.takeIn p).ledger =
    { L.ledger with occupancy := L.occupancy + p.cells, stored := recordCells L.upstream.queue + p.cells } := by
  have h := LaneState.ledger_recordsJoined L.upstream.queue (({ L with occupancy := L.occupancy + p.cells }).onUpstream
    fun u => { u with queue := u.queue ++ [p], drops := 0, firstPending := false })
  refine Eq.trans ?_ (h.trans ?_)
  · rfl
  · simp only [LaneState.ledger, LaneState.onUpstream, recordCells_append]
    rfl

/-- R54, R88, R89: a packet is admitted where both tests allow it, and is an overrun otherwise. -/
theorem State.keeps_sequenceStep (s : State) (data : List Byte) (damaged urgent : Bool) (l : LaneId) :
    s.ledger.Keeps (s.sequenceStep data damaged urgent l).ledger := by
  unfold State.sequenceStep
  dsimp only
  split
  · next ha =>
    obtain ⟨hcap, hfree⟩ := (s.admits_iff _ _).1 ha
    rw [State.ledger_squeezeAfterAdmission, State.onLane_onLane, State.ledger_onLane, LaneState.ledger_takeIn]
    rw [← Fin.sum_univ_def] at hfree
    exact s.ledger.keeps_admission l _ hcap hfree
  · refine .of_eq ?_
    rw [State.ledger_overrun]
    exact s.ledger_onLane_same l _ rfl
theorem State.keeps_classStep (s : State) (data : List Byte) (damaged : Bool) (l : LaneId) :
    s.ledger.Keeps (s.classStep data damaged l).ledger := by
  unfold State.classStep
  split
  · exact s.keeps_sequenceStep ..
  · exact s.keeps_sequenceStep ..
  · exact .of_eq rfl
  · exact .of_eq (s.ledger_onLane_same l _ rfl)
theorem State.keeps_arrival (s : State) (kept : List Byte) (count : Nat) (l : LaneId) :
    s.ledger.Keeps (s.arrival kept count l).ledger := by
  unfold State.arrival
  split_ifs
  · exact s.keeps_classStep ..
  · exact s.keeps_classStep ..
  · exact .of_eq (s.ledger_onLane_same l _ rfl)

/-! ### AttachEvents.lean -/

@[simp] theorem State.ledger_setPhase (s : State) (p : AttachPhase) (l : LaneId) : (s.setPhase p l).ledger = s.ledger := by
  apply s.ledger_onLink
  split <;> rfl
@[simp] theorem State.ledger_judgeIdentity (s : State) (bytes : List Byte) (count : Nat) (l : LaneId) :
    (s.judgeIdentity bytes count l).ledger = s.ledger := by
  unfold State.judgeIdentity
  split
  · split <;> simp
  · simp
@[simp] theorem State.ledger_identityRequest (s : State) (r : OutResult) (l : LaneId) :
    (s.identityRequest r l).ledger = s.ledger := by cases r <;> simp [State.identityRequest]
@[simp] theorem State.ledger_identityRead (s : State) (r : InResult) (p : Poll) (l : LaneId) :
    (s.identityRead r p l).ledger = s.ledger := by
  cases r with
  | data toggle bytes => simp only [State.identityRead]; split <;> simp
  | nak => simp only [State.identityRead]; split <;> simp
  | stall => simp [State.identityRead]
  | transportError => simp [State.identityRead]

/-! ### StrokeOps.lean, FixtureEvents.lean -/

@[simp] theorem State.ledger_startStep (s : State) (l : LaneId) : (s.startStep l).ledger = s.ledger := by
  unfold State.startStep
  split
  · rfl
  · dsimp only
    split
    · rw [State.ledger_offerLane]
      exact s.ledger_onLane_same l _ rfl
    · exact s.ledger_onLane_same l _ rfl
@[simp] theorem State.ledger_endRun (s : State) (l : LaneId) : (s.endRun l).ledger = s.ledger := by simp [State.endRun]
@[simp] theorem State.ledger_afterStep (s : State) (e : Step) (l : LaneId) : (s.afterStep e l).ledger = s.ledger := by
  unfold State.afterStep
  split
  · simp
  · split <;> simp
@[simp] theorem State.ledger_sample (s : State) (v : Nat) (l : LaneId) : (s.sample v l).ledger = s.ledger := by
  simp [State.sample]
/-- A change made item by item, none of which touches the ledger. -/
theorem State.ledger_foldl {α : Type} {f : State → α → State} (hf : ∀ s a, (f s a).ledger = s.ledger) (as : List α) (s : State) :
    (as.foldl f s).ledger = s.ledger := by
  induction as generalizing s with
  | nil => rfl
  | cons a as ih => rw [List.foldl_cons, ih, hf]
@[simp] theorem State.ledger_answerStop (s : State) (l : LaneId) (w : StopWait) : (s.answerStop l w).ledger = s.ledger := by
  simp [State.answerStop]
@[simp] theorem State.ledger_nestSeated (s : State) (l : LaneId) : (s.nestSeated l).ledger = s.ledger := by
  simp [State.nestSeated]
@[simp] theorem State.ledger_strokesNestEmptied (s : State) (l : LaneId) : (s.strokesNestEmptied l).ledger = s.ledger := by
  unfold State.strokesNestEmptied
  split <;> simp
@[simp] theorem State.ledger_keepNestEmptied (s : State) (l : LaneId) : (s.keepNestEmptied l).ledger = s.ledger := by
  unfold State.keepNestEmptied
  split
  · rw [State.ledger_onLane_same _ _ _ rfl, State.ledger_recordAsync]
  · rfl
theorem State.keeps_nestEmptied (s : State) (l : LaneId) : s.ledger.Keeps (s.nestEmptied l).ledger := by
  simpa [State.nestEmptied] using s.keeps_linkNestEmptied l

/-! ### SendRequests.lean, OutEngine.lean, InEngine.lean -/

@[simp] theorem State.ledger_setHalted (s : State) (b : Bool) (l : LaneId) : (s.setHalted b l).ledger = s.ledger :=
  s.ledger_onLane_same l _ rfl

/-- R77: the queued sends end, and one in flight stays. -/
theorem State.keeps_flushDown (s : State) (l : LaneId) : s.ledger.Keeps (s.flushDown l).ledger := by
  refine State.keeps_endSends (l := l) (sendCells ((s.lane l).link.out.flight.map Flight.record).toList)
    (sendCells (s.lane l).send.queue) ?_ ?_ (by rw [State.flushDown, State.ledger_cancelSends])
  · simp [LaneState.ledger, LaneState.sends]
  · rw [LaneState.sends, sendCells_append]

/-- R80: so does the one in flight. -/
theorem State.keeps_resetSends (s : State) (l : LaneId) : s.ledger.Keeps (s.resetSends l).ledger :=
  State.keeps_endAll (l := l) rfl (by rw [State.resetSends, State.ledger_cancelSends])
theorem State.keeps_resetFixture (s : State) (l : LaneId) : s.ledger.Keeps (s.resetFixture l).ledger := by
  rw [State.resetFixture, State.ledger_onLane_same _ _ _ rfl]
  exact s.keeps_discardUpstream l

/-- A send in flight that goes on is the same record. -/
theorem State.ledger_setOut (s : State) (e : OutEngine) (l : LaneId)
    (h : e.flight.map Flight.record = (s.lane l).link.out.flight.map Flight.record) : (s.setOut e l).ledger = s.ledger :=
  s.ledger_onLane_same l _ (by simp only [LaneState.ledger, LaneState.sends, LaneState.onLink, h])
@[simp] theorem State.ledger_needClearing (s : State) (e : Endpoint) (l : LaneId) :
    (s.needClearing e l).ledger = s.ledger := s.ledger_onLink l _ rfl

theorem LaneState.sends_flight {L : LaneState} {f : Flight} (h : L.link.out.flight = some f) :
    L.sends = f.record :: L.send.queue := by rw [LaneState.sends, h]; rfl

/-- R39, R70: a send that succeeds releases its cells. -/
theorem State.keeps_sendSucceeds (s : State) (f : Flight) (l : LaneId) (h : (s.lane l).link.out.flight = some f) :
    s.ledger.Keeps (s.sendSucceeds f l).ledger := by
  refine State.keeps_endSends (l := l) (f := fun L => { L with
    link := { L.link with out := .idle, recovered := min 65535 (L.link.recovered + (f.attempt - 1)) }
    activity := some Config.activityUs }) (sendCells (s.lane l).send.queue) f.record.cells rfl ?_ ?_
  · rw [LaneState.sends_flight h, sendCells_cons, Nat.add_comm]
  · unfold State.sendSucceeds
    dsimp only
    split <;> simp

/-- R70, R74: a send that is refused, and the records cancelled with it, release theirs. -/
theorem State.keeps_sendRefused (s : State) (cond : Nat → Cond) (f : Flight) (l : LaneId)
    (h : (s.lane l).link.out.flight = some f) : s.ledger.Keeps (s.sendRefused cond f l).ledger := by
  unfold State.sendRefused
  extract_lets split t
  have hsplit : sendCells split.1 + sendCells split.2 = sendCells (s.lane l).send.queue := by
    unfold split
    split
    · exact splitChain_cells _
    · exact Nat.zero_add _
  refine State.keeps_endSends (l := l) (f := fun L =>
    { L with link := { L.link with out := .idle }, send := { queue := split.2, halted := true } }) (sendCells split.2)
    (f.record.cells + sendCells split.1) rfl ?_ ?_
  · rw [LaneState.sends_flight h, sendCells_cons]
    omega
  · rw [State.ledger_cancelChain, State.ledger_endSendCheck, Ledger.release_release, State.ledger_offerLane]

@[simp] theorem State.ledger_setIn (s : State) (e : InEngine) (l : LaneId) : (s.setIn e l).ledger = s.ledger :=
  s.ledger_onLink l _ rfl
@[simp] theorem State.ledger_recheckPoll (s : State) (p : Option Poll) (l : LaneId) :
    (s.recheckPoll p l).ledger = s.ledger := s.ledger_setIn _ l
@[simp] theorem State.ledger_pollGoesOn (s : State) (p : Poll) (l : LaneId) : (s.pollGoesOn p l).ledger = s.ledger :=
  s.ledger_setIn _ l
theorem State.keeps_packetEnds (s : State) (bytes : List Byte) (count : Nat) (l : LaneId) :
    s.ledger.Keeps (s.packetEnds bytes count l).ledger := by
  have ht : ((s.setIn (.idle none) l).onLane l fun L => { L with activity := some Config.activityUs }).ledger = s.ledger := by
    rw [State.ledger_onLane_same _ _ _ rfl, State.ledger_setIn]
  rw [State.packetEnds, State.ledger_recheckPoll]
  exact (Ledger.Keeps.of_eq ht).trans (State.keeps_arrival ..)
theorem State.keeps_pollError (s : State) (p : Poll) (l : LaneId) : s.ledger.Keeps (s.pollError p l).ledger :=
  s.keeps_transportError 1 l _ fun t ht _ => .of_eq (by rw [State.ledger_setIn, ht])

end Sys2Proof.Machine
end

section
/-! SEND_PACKET (R51, R67) and CONFIGURE_POOL (R61): the branches of each handling, and what an accepted request makes of the
part. -/

namespace Sys2Proof.Machine

/-! ### SEND_PACKET -/

/-- R51: the room for one more send. -/
theorem State.acceptsSend_iff (s : State) (l : LaneId) (r : SendRecord) :
    s.acceptsSend l r = true ↔ (s.lane l).send.queue.length < 16 ∧ s.downHeld + r.cells ≤ s.downCells := by
  rw [State.acceptsSend, Bool.and_eq_true, decide_eq_true_iff, decide_eq_true_iff]
  rfl

/-- R67: the branches of SEND_PACKET, in the order of its tests: `n` is the option byte and `r` the record that it asks for. -/
theorem handleSendPacket_cases {s : State} {l : LaneId} {rq : Request} {n : Nat} {r : SendRecord} (hn : byteAt rq.body 0 = n)
    (hr : sendRecordOf rq (s.lane l).link.epoch = r) :
    (1 < n → handleSendPacket l rq s = s.refuseLane .badField l rq) ∧
    (n ≤ 1 → (s.lane l).link.state ≠ .up →
      handleSendPacket l rq s = s.refuseLane (.linkNotUp (s.lane l).link.state.code) l rq) ∧
    (n ≤ 1 → (s.lane l).link.state = .up → s.acceptsSend l r = false →
      handleSendPacket l rq s = s.refuseLane (.downFull (s.downCells - s.downHeld)) l rq) ∧
    (n ≤ 1 → (s.lane l).link.state = .up → s.acceptsSend l r = true → handleSendPacket l rq s =
      (s.takeDown r.cells).onLane l fun L => { L with send := { L.send with queue := L.send.queue ++ [r] } }) := by
  subst hn hr
  exact ⟨fun h => if_pos h, fun h hu => (if_neg h.not_gt).trans (if_pos hu),
    fun h hu hf => (if_neg h.not_gt).trans ((if_neg (not_not.2 hu)).trans (if_pos hf)),
    fun h hu hf => (if_neg h.not_gt).trans ((if_neg (not_not.2 hu)).trans (if_neg (by simp [hf])))⟩

/-- R67: the chain flag is the option byte's one bit. -/
theorem byte_beq_one (b : Byte) : (b.toNat == 1) = (b == 1) := by
  rw [Bool.eq_iff_iff, beq_iff_eq, beq_iff_eq, ← BitVec.toNat_inj]
  rfl

/-- Settles O30: the four branches of SEND_PACKET, with `acceptsSend_iff` for the room. -/
theorem sendPacketIsQueued : Obligations.SendPacketIsQueued := by
  intro s o l tag options data hs hp hlen cells i refused
  have hlen' : (options :: data).length ≤ 1025 := Nat.succ_le_succ hlen
  have ha : exec i s = .next (handleSendPacket l ⟨o, laneByte l, 0x20, tag, options :: data⟩ s) :=
    congrArg Host.Outcome.next (arrive_laneRequest hs hp oneReply_sendPacket 0x20 tag (options :: data)
      (Bool.and_eq_true_iff.2 ⟨rfl, decide_eq_true hlen'⟩) (by omega))
  have hrecord : sendRecordOf ⟨o, laneByte l, 0x20, tag, options :: data⟩ (s.lane l).link.epoch =
      ⟨o, tag, options == 1, data, (s.lane l).link.epoch⟩ := by rw [← byte_beq_one]; rfl
  have hroom := s.acceptsSend_iff l ⟨o, tag, options == 1, data, (s.lane l).link.epoch⟩
  obtain ⟨hbad, hdown, hfull, hjoin⟩ :=
    handleSendPacket_cases (s := s) (rq := ⟨o, laneByte l, 0x20, tag, options :: data⟩) (n := options.toNat) rfl hrecord
  refine ⟨fun h => ?_, fun h hu => ?_, fun h hu => ⟨fun hno => ?_, fun hq hc => ?_⟩⟩
  · rw [ha, hbad h]
    rfl
  · rw [ha, hdown h hu]
    rfl
  · have hrefused := mt hroom.1 fun ⟨hq, hc⟩ => hno.elim hq.not_ge hc.not_gt
    rw [ha, hfull h hu (Bool.eq_false_iff.2 hrefused)]
    rfl
  · rw [ha, hjoin h hu (hroom.2 ⟨hq, hc⟩)]
    simp only [State.onLane, State.lane_takeDown]
    rfl

/-! ### CONFIGURE_POOL -/

theorem holdsDataUp_eq_false (f : Option Frame) : holdsDataUp f = false ↔ ∀ o l rs, f ≠ some (.dataUp o l rs) := by
  rcases f with _ | ⟨r⟩ | ⟨o, es⟩ | ⟨o, l, rs⟩ <;> simp [holdsDataUp]

/-- R61, step 3, in the words of claims. -/
theorem State.memoryFree_iff (s : State) : s.memoryFree = true ↔ s.memoryUnused := by
  have hl : (s.lanes.toList.all fun L => L.sends.isEmpty && L.upstream.queue.isEmpty) = true ↔
      ∀ l : LaneId, (s.lane l).sends = [] ∧ (s.lane l).upstream.queue = [] := by
    simp [State.lane, Fin.forall_iff]
  simp only [State.memoryFree, State.memoryUnused, Bool.and_eq_true, Bool.not_eq_true', holdsDataUp_eq_false, hl, forall_and,
    and_assoc]

/-- R61, step 4: the split, the flow holds, and the end of a squeeze. -/
theorem State.applySplit_eq (s : State) (d g : Nat) : s.applySplit d g =
    (({ s with downCells := d, reserve := g, squeezed := false } : State).onLanes fun _ L =>
      { L with flowHeld := if L.options.high ≤ L.occupancy then true
          else if L.occupancy ≤ L.options.low then false else L.flowHeld }).offeredIf s.squeezed .poolRelief := by
  have hlanes : (fun (_ : LaneId) L => LaneState.holdAfterOptions L) = fun _ L => { L with
      flowHeld := if L.options.high ≤ L.occupancy then true
        else if L.occupancy ≤ L.options.low then false else L.flowHeld } := by
    funext _ L
    exact L.holdAfterOptions_eq
  unfold State.applySplit State.offeredIf
  rw [hlanes]
  cases hq : s.squeezed with
  | false => rw [if_neg (by simp), if_neg (by simp), ← hq]
  | true =>
    rw [if_pos rfl, if_pos rfl]
    rfl

/-- R61: the branches of CONFIGURE_POOL. -/
theorem handleConfigurePool_cases {s : State} {rq : Request} {d g u : Nat} (hd : poolD (u16At rq.body 0) = d)
    (hg : poolG (byteAt rq.body 2) = g) (hu : 2048 - d = u) :
    (u < 24 * g → handleConfigurePool rq s = s.refuseDevice (.poolSplit (u / 24)) rq) ∧
    (24 * g ≤ u → s.memoryFree = false → handleConfigurePool rq s = s.refuseDevice .poolInUse rq) ∧
    (24 * g ≤ u → s.memoryFree = true → handleConfigurePool rq s =
      (s.applySplit d g).answer rq .good (le16 d ++ le16 u ++ le8 g ++ le16 (u - 24 * g))) := by
  subst hd hg hu
  exact ⟨fun h => if_pos h, fun h hf => (if_neg h.not_gt).trans (if_pos hf),
    fun h hf => (if_neg h.not_gt).trans (if_neg (by simp [hf]))⟩

/-- Settles O20: the three branches of CONFIGURE_POOL, with `memoryFree_iff` for the use check and `applySplit_eq` for what the
split makes of the part. -/
theorem configurePoolSplits : Obligations.ConfigurePoolSplits := by
  intro s o tag d0 d1 g0 hs d g u
  have ha : exec (.configurePool o 255 tag [d0, d1, g0]) s = .next (handleConfigurePool ⟨o, 255, 0x03, tag, [d0, d1, g0]⟩ s) :=
    congrArg Host.Outcome.next (arrive_deviceRequest hs oneReply_configurePool o 0x03 tag [d0, d1, g0] rfl (by simp))
  have hg : poolG g0.toNat = g := Nat.zero_max _
  obtain ⟨hsplit, huse, happly⟩ :=
    handleConfigurePool_cases (s := s) (rq := ⟨o, 255, 0x03, tag, [d0, d1, g0]⟩) (d := d) (u := u) rfl hg rfl
  refine ⟨fun h => ?_, fun h hm => ?_, fun h hm => ?_⟩
  · rw [ha, hsplit h, State.refuseDevice_eq _ _ _ rfl]
  · rw [ha, huse h (Bool.eq_false_iff.2 (mt s.memoryFree_iff.1 hm)), State.refuseDevice_eq _ _ _ rfl]
  · rw [ha, happly h (s.memoryFree_iff.2 hm), State.applySplit_eq]
    rfl

end Sys2Proof.Machine
end

section
/-! The frame slots and the resets of the whole part in the ledger of the packet memory (R12 to R14, R23, R24, R53, R57, R64,
R93). -/

namespace Sys2Proof.Machine

/-! ### The frame slots -/

@[simp] theorem slotCells_none (k : LaneId) : slotCells k none = 0 := rfl
@[simp] theorem slotCells_reply (k : LaneId) (r : Reply) : slotCells k (some (.reply r)) = 0 := rfl
@[simp] theorem slotCells_notice (k : LaneId) (o : Originator) (es : List (Fin 25 × NoticeEntry)) :
    slotCells k (some (.notice o es)) = 0 := rfl
@[simp] theorem slotCells_dataUp_self (o : Originator) (l : LaneId) (rs : List PacketRecord) :
    slotCells l (some (.dataUp o l rs)) = recordCells rs := by simp [slotCells, recordsFor]
theorem slotCells_dataUp_ne (o : Originator) {l k : LaneId} (rs : List PacketRecord) (h : k ≠ l) :
    slotCells k (some (.dataUp o l rs)) = 0 := by
  rw [slotCells, recordsFor, if_neg (Ne.symm h)]
  rfl

/-- R93: a frame takes records, and loses none. -/
theorem takeRecords_cells (room : Nat) (ps : List PacketRecord) :
    recordCells (takeRecords room ps).1 + recordCells (takeRecords room ps).2 = recordCells ps := by
  have hcons (p : PacketRecord) (qs : List PacketRecord) : recordCells (p :: qs) = p.cells + recordCells qs :=
    List.sum_cons
  have hnil : recordCells [] = 0 := rfl
  induction ps generalizing room with
  | nil => rfl
  | cons p ps ih =>
    have hps := ih (room - (p.data.length + 8))
    unfold takeRecords
    split_ifs <;> simp only [hcons, hnil] <;> omega

/-- R12: a built frame lies in a slot that was free. -/
theorem State.ledger_placeFrame {s : State} (f : Frame) (h : s.slotFree = true) :
    (s.placeFrame f).ledger = { s.ledger with slots := fun k => s.ledger.slots k + slotCells k (some f) } := by
  unfold State.placeFrame
  split
  · next ht => simp [State.ledger, ht, State.lane, Nat.add_comm]
  · next f₀ ht =>
    have hst : s.staged = none := by simpa [State.slotFree, ht] using h
    simp [State.ledger, ht, hst, State.lane]

/-- R94: the choice of a lane touches no count and no slot. -/
theorem State.ledger_chooseLane {s t : State} {l : LaneId} (h : s.chooseLane = some (l, t)) :
    t.ledger = s.ledger ∧ t.slotFree = s.slotFree := by
  unfold State.chooseLane at h
  dsimp only at h
  split at h
  · cases h; exact ⟨rfl, rfl⟩
  · split_ifs at h <;> cases h <;> exact ⟨rfl, rfl⟩
  · cases h; exact ⟨rfl, rfl⟩
  · cases h

/-- R93: the records of a DATA_UP frame keep their cells. -/
theorem State.keeps_buildDataUp {s t : State} {l : LaneId} {f : Frame} (hs : s.slotFree = true)
    (h : s.buildDataUp l = some (f, t)) : s.ledger.Keeps (t.placeFrame f).ledger := by
  unfold State.buildDataUp at h
  split at h
  · cases h
  · next c _ =>
    have hcells := takeRecords_cells Config.maxBody (s.lane l).upstream.queue
    generalize takeRecords Config.maxBody (s.lane l).upstream.queue = parts at h hcells
    obtain ⟨rfl, rfl⟩ := Prod.mk.inj (Option.some.inj h)
    have hlane : ((s.lane l).onUpstream (Upstream.afterBuild parts.2)).ledger =
        { (s.lane l).ledger with stored := recordCells parts.2 } := by
      unfold Upstream.afterBuild
      split
      · next he => rw [he]; rfl
      · rfl
    refine State.keeps_release l (fun k => s.ledger.slots k + slotCells k (some (.dataUp c.beneficiary l parts.1)))
      (recordCells parts.2) 0 ?_ ?_ fun k hk => ?_
    · rw [State.ledger_placeFrame _ (by exact hs), State.ledger_onLane, hlane]
      rfl
    · rw [slotCells_dataUp_self]
      omega
    · rw [slotCells_dataUp_ne _ _ hk, Nat.add_zero]

/-- A frame that holds no packets, from a state with the same counts. -/
theorem State.keeps_placeFrame_of_eq {s t : State} {f : Frame} (hs : t.slotFree = true) (hl : t.ledger = s.ledger)
    (hf : ∀ k, slotCells k (some f) = 0) : s.ledger.Keeps (t.placeFrame f).ledger :=
  .of_eq (by simp only [State.ledger_placeFrame f hs, hl, hf, Nat.add_zero])

/-- R13: a frame of each source. -/
theorem State.keeps_buildFrame {s t : State} {f : Frame} (hs : s.slotFree = true) (h : s.buildFrame = some (f, t)) :
    s.ledger.Keeps (t.placeFrame f).ledger := by
  unfold State.buildFrame at h
  split at h
  · obtain ⟨rfl, rfl⟩ := Prod.mk.inj (Option.some.inj h)
    exact State.keeps_placeFrame_of_eq hs rfl fun _ => rfl
  · split at h
    · obtain ⟨rfl, rfl⟩ := Prod.mk.inj (Option.some.inj h)
      exact State.keeps_placeFrame_of_eq hs rfl fun _ => rfl
    · split at h
      · next l u hc =>
        obtain ⟨hl, hf⟩ := State.ledger_chooseLane hc
        exact hl ▸ State.keeps_buildDataUp (hf.trans hs) h
      · cases h

/-! ### Resets of the whole part -/

theorem Ledger.Keeps.of_sound (a : Ledger) {b : Ledger} (hm : ∀ l, (b.lanes l).marksSound) (hc : b.cellsSound) : a.Keeps b :=
  ⟨fun _ => hm, fun _ => hc⟩

theorem State.ledger_deviceReset (s : State) (running : Bool) : (s.deviceReset running).ledger = State.reset.ledger := by
  have hl : (fun k => ((s.deviceReset running).lane k).ledger) = fun k => (State.reset.lane k).ledger := by
    funext k
    rw [State.lane_deviceReset, State.lane_reset]
    rfl
  exact congrArg (fun lanes => ({ State.reset.ledger with lanes := lanes } : Ledger)) hl

/-- R64: a device reset leaves an empty memory. -/
theorem State.keeps_deviceReset (s : State) (running : Bool) (a : Ledger) : a.Keeps (s.deviceReset running).ledger := by
  rw [State.ledger_deviceReset]
  refine .of_sound a (fun l => ?_) ((State.cellsSound_iff _).1 State.cellsSound_reset)
  show (State.reset.lane l).ledger.marksSound
  rw [State.lane_reset]
  exact ⟨by decide, by decide, by decide, by decide⟩

theorem LaneState.ledger_returned (rs : List PacketRecord) (L : LaneState) : (L.returned rs).ledger =
    { L.ledger with stored := recordCells rs + recordCells L.upstream.queue } := by
  unfold LaneState.returned
  split
  · next h => subst h; exact congrArg (fun n => ({ L.ledger with stored := n } : LaneLedger)) (Nat.zero_add _).symm
  · rw [LaneState.ledger_recordsJoined, ← recordCells_append]
    rfl

/-- R23: the packets in the slots return to their queues. -/
theorem State.keeps_stationLinkReset (s : State) : s.ledger.Keeps s.stationLinkReset.ledger := by
  have hl (k : LaneId) : s.stationLinkReset.ledger.lanes k = { s.ledger.lanes k with
      stored := s.ledger.slots k + (s.ledger.lanes k).stored } := by
    have h := LaneState.ledger_returned (recordsFor k s.transmitting ++ recordsFor k s.staged) (s.lane k)
    rw [recordCells_append] at h
    show (s.stationLinkReset.lane k).ledger = _
    rw [State.lane_stationLinkReset]
    exact h
  have hcounts : s.stationLinkReset.ledger.downCells = s.downCells ∧ s.stationLinkReset.ledger.reserve = s.reserve ∧
      s.stationLinkReset.ledger.downHeld = s.downHeld := by simp [State.ledger, State.stationLinkReset, State.onLanes]
  obtain ⟨hd, hr, hh⟩ := hcounts
  refine Ledger.keeps_release (fun _ => 0) hd hr hh (fun k => ?_) fun k => ?_
  · rw [hl]
    rfl
  · rw [hl]
    exact Nat.add_comm ..

theorem State.keeps_leaveConfigured (s : State) (p : PortState) : s.ledger.Keeps (s.leaveConfigured p).ledger := by
  unfold State.leaveConfigured
  dsimp only
  split
  · exact State.keeps_deviceReset _ _ _
  · exact State.keeps_stationLinkReset { s with port := p }

/-- R14, R57: the frame that has left the transmitting slot releases the cells of its packets. -/
theorem State.keeps_transferred {s : State} {f : Frame} (h : s.transmitting = some f) :
    s.ledger.Keeps (({ s with transmitting := s.staged, staged := none } : State).transferred f).ledger := by
  have hslots : ({ s with transmitting := s.staged, staged := none } : State).ledger =
      { s.ledger with slots := fun k => slotCells k s.staged } := by simp [State.ledger, State.lane]
  have hempty (hf : ∀ k, slotCells k (some f) = 0) :
      s.ledger.Keeps ({ s with transmitting := s.staged, staged := none } : State).ledger :=
    .of_eq (by rw [hslots]; simp [State.ledger, h, hf])
  cases f with
  | reply r =>
    unfold State.transferred
    dsimp only
    split
    · exact State.keeps_deviceReset _ _ _
    · exact hempty fun _ => rfl
  | notice o es => exact hempty fun _ => rfl
  | dataUp o l rs =>
    have ht : (({ s with transmitting := s.staged, staged := none } : State).transferred (.dataUp o l rs)).ledger =
        ({ s.ledger with slots := fun k => slotCells k s.staged }.setLane l
          { (s.lane l).ledger with occupancy := (s.lane l).occupancy - recordCells rs }) :=
      (State.ledger_releaseUp _ _ l).trans (by rw [hslots]; rfl)
    have hs (k : LaneId) : s.ledger.slots k = slotCells k (some (.dataUp o l rs)) + slotCells k s.staged := by
      simp only [State.ledger, h]
    refine State.keeps_release l _ (recordCells (s.lane l).upstream.queue) (recordCells rs) ht ?_ fun k hk => ?_
    · rw [hs, slotCells_dataUp_self]
      omega
    · rw [hs, slotCells_dataUp_ne _ _ hk, Nat.zero_add]

end Sys2Proof.Machine
end

section
/-! The accounts of the packet memory under every request (R49 to R54, R61, R62, R67). -/

namespace Sys2Proof.Machine

/-- A change of state that keeps the accounts. -/
def KeepsLedger (f : State → State) : Prop := ∀ s : State, s.ledger.Keeps (f s).ledger

theorem KeepsLedger.of_ledger {f : State → State} (h : ∀ s, (f s).ledger = s.ledger) : KeepsLedger f := fun s => .of_eq (h s)

@[simp] theorem State.ledger_setRx (s : State) (x : Rx) : (s.setRx x).ledger = s.ledger := rfl
@[simp] theorem State.ledger_pump (s : State) : s.pump.ledger = s.ledger := rfl
@[simp] theorem State.ledger_setClaim (s : State) (c : Option Claim) (l : LaneId) : (s.setClaim c l).ledger = s.ledger :=
  s.ledger_onLane_same l _ rfl
@[simp] theorem State.ledger_refuseForm (s : State) (c : Cond) (rq : Request) : (s.refuseForm c rq).ledger = s.ledger := by
  unfold State.refuseForm
  split <;> simp
@[simp] theorem State.ledger_refuseLane (s : State) (c : Cond) (l : LaneId) (rq : Request) :
    (s.refuseLane c l rq).ledger = s.ledger := by simp [State.refuseLane]
@[simp] theorem State.ledger_refuseDevice (s : State) (c : Cond) (rq : Request) :
    (s.refuseDevice c rq).ledger = s.ledger := by simp [State.refuseDevice]
@[simp] theorem State.ledger_refuseAttention (s : State) (l : LaneId) (rq : Request) :
    (s.refuseAttention l rq).ledger = s.ledger := by simp [State.refuseAttention]
@[simp] theorem State.ledger_goodLane (s : State) (body : List Byte) (l : LaneId) (rq : Request) :
    (s.goodLane body l rq).ledger = s.ledger := by simp [State.goodLane]

theorem Ledger.Keeps.goodLane {a : Ledger} {t : State} (h : a.Keeps t.ledger) (body : List Byte) (l : LaneId) (rq : Request) :
    a.Keeps (t.goodLane body l rq).ledger := (t.ledger_goodLane body l rq).symm ▸ h
theorem State.keeps_refuseLane (s : State) (c : Cond) (l : LaneId) (rq : Request) :
    s.ledger.Keeps (s.refuseLane c l rq).ledger := .of_eq (s.ledger_refuseLane c l rq)

theorem KeepsLedger.laneRequest {handle : LaneId → Request → State → State} (h : ∀ l rq, KeepsLedger (handle l rq))
    (access : Access) (ok : Nat → Bool) (rq : Request) : KeepsLedger (laneRequest access ok handle rq) := by
  intro s
  unfold Machine.laneRequest
  dsimp only
  split_ifs
  · exact .of_eq (s.ledger_refuseForm _ rq)
  · exact .of_eq (s.ledger_refuseAttention _ rq)
  · exact .of_eq (s.ledger_answer rq _ _)
  · exact h _ rq s
  · exact .of_eq (s.ledger_refuseForm _ rq)

theorem KeepsLedger.deviceRequest {handle : Request → State → State} (h : ∀ rq, KeepsLedger (handle rq))
    (ok : Nat → Bool) (rq : Request) : KeepsLedger (deviceRequest ok handle rq) := by
  intro s
  unfold Machine.deviceRequest
  split_ifs
  · exact .of_eq (s.ledger_refuseForm _ rq)
  · exact .of_eq (s.ledger_refuseForm _ rq)
  · exact h rq s

/-- A request changes the accounts by its handling alone. -/
theorem keepsLedger_arrive {rq : Request} {handle : Request → State → State} (hk : KeepsLedger (handle rq)) :
    KeepsLedger (arrive rq handle) := by
  intro s
  unfold arrive State.takeRequest
  split
  · exact .of_eq rfl
  · next t ht =>
    have hx : ∃ x, t = s.setRx x := by
      split_ifs at ht
      · exact ⟨_, (Option.some.inj ht).symm⟩
      · exact ⟨_, (Option.some.inj ht).symm⟩
    obtain ⟨x, rfl⟩ := hx
    exact hk (s.setRx x)

/-! Device scope. -/

theorem slotCells_eq_zero {f : Option Frame} (h : ∀ o l rs, f ≠ some (.dataUp o l rs)) (k : LaneId) : slotCells k f = 0 := by
  rcases f with _ | ⟨r⟩ | ⟨o, es⟩ | ⟨o, l, rs⟩
  · rfl
  · rfl
  · rfl
  · exact absurd rfl (h o l rs)

/-- R61, step 3: in a memory that is wholly free nothing is stored. -/
theorem State.unused_of_memoryFree {s : State} (h : s.memoryFree = true) : s.ledger.unused := by
  obtain ⟨hlanes, hslots⟩ := s.memoryFree_iff.1 h
  intro l
  obtain ⟨hsends, hqueue⟩ := hlanes l
  refine ⟨?_, ?_, ?_⟩
  · show sendCells (s.lane l).sends = 0
    rw [hsends]; rfl
  · show recordCells (s.lane l).upstream.queue = 0
    rw [hqueue]; rfl
  · show slotCells l s.transmitting + slotCells l s.staged = 0
    rw [slotCells_eq_zero fun o k rs => (hslots o k rs).1, slotCells_eq_zero fun o k rs => (hslots o k rs).2]

theorem State.ledger_applySplit (s : State) (d g : Nat) :
    (s.applySplit d g).ledger = { s.ledger with downCells := d, reserve := g } := by
  have hl : (({ s with downCells := d, reserve := g } : State).onLanes fun _ L => L.holdAfterOptions).ledger =
      { s.ledger with downCells := d, reserve := g } := by
    refine congrArg (fun lanes => ({ s.ledger with downCells := d, reserve := g, lanes := lanes } : Ledger)) ?_
    funext k
    rw [State.lane_onLanes]
    rfl
  unfold State.applySplit
  dsimp only
  split
  · rw [State.ledger_offerDevice]; exact hl
  · exact hl

theorem poolD_le (n : Nat) : poolD n ≤ 2048 := by
  have h : clamp 256 1792 n ≤ 1792 := max_le (by decide) (Nat.min_le_right ..)
  unfold poolD
  omega

theorem keepsLedger_configurePool (rq : Request) : KeepsLedger (handleConfigurePool rq) := by
  intro s
  unfold handleConfigurePool
  dsimp only
  split_ifs with hsplit hfree
  · exact .of_eq (s.ledger_refuseDevice _ rq)
  · exact .of_eq (s.ledger_refuseDevice _ rq)
  · rw [State.ledger_answer, State.ledger_applySplit]
    exact s.ledger.keeps_split _ _ (State.unused_of_memoryFree (by simpa using hfree)) (poolD_le _) (not_lt.1 hsplit)
theorem keepsLedger_deviceReset (rq : Request) : KeepsLedger (handleDeviceReset rq) := .of_ledger fun _ => rfl
theorem keepsLedger_setPacing (rq : Request) : KeepsLedger (handleSetPacing rq) := .of_ledger fun _ => rfl
theorem keepsLedger_deviceSense (rq : Request) : KeepsLedger (handleDeviceSense rq) := .of_ledger fun _ => rfl
theorem keepsLedger_setClassActions (rq : Request) : KeepsLedger (handleSetClassActions rq) := by
  refine KeepsLedger.of_ledger fun s => ?_
  unfold handleSetClassActions
  dsimp only
  split
  · simp
  · rfl
theorem keepsLedger_openNotices (rq : Request) : KeepsLedger (handleOpenNotices rq) := by
  refine KeepsLedger.of_ledger fun s => ?_
  unfold handleOpenNotices
  split <;> simp
theorem keepsLedger_closeNotices (rq : Request) : KeepsLedger (handleCloseNotices rq) := by
  refine KeepsLedger.of_ledger fun s => ?_
  unfold handleCloseNotices
  split <;> simp
theorem keepsLedger_startStrokes (rq : Request) : KeepsLedger (handleStartStrokes rq) := by
  refine KeepsLedger.of_ledger fun s => ?_
  have hstart (ls : List LaneId) : (s.startLanes rq.originator ls).ledger = s.ledger :=
    State.ledger_foldl (fun t l => by rw [State.ledger_clearCondition, State.ledger_onStrokes]) ls s
  have hclear (ls : List LaneId) : (ls.foldl (fun t k => t.clearAttention rq.originator k) s).ledger = s.ledger :=
    State.ledger_foldl (fun t k => t.ledger_clearAttention _ k) ls s
  unfold handleStartStrokes
  dsimp only
  split
  · simp
  · split
    · rw [State.ledger_answer, hclear]
    · split
      · simp
      · split
        · simp
        · split
          · simp
          · rw [State.ledger_answer, hstart]

/-! Lane scope: requests that leave the accounts. -/

theorem keepsLedger_claimLane (l : LaneId) (rq : Request) : KeepsLedger (handleClaimLane l rq) := by
  refine KeepsLedger.of_ledger fun s => ?_
  unfold handleClaimLane
  split
  · simp
  · split
    · simp
    · dsimp only; split <;> simp
theorem keepsLedger_yieldLane (l : LaneId) (rq : Request) : KeepsLedger (handleYieldLane l rq) := by
  refine KeepsLedger.of_ledger fun s => ?_
  unfold handleYieldLane
  split_ifs <;> simp
theorem keepsLedger_breakClaim (l : LaneId) (rq : Request) : KeepsLedger (handleBreakClaim l rq) := by
  refine KeepsLedger.of_ledger fun s => ?_
  unfold handleBreakClaim
  split <;> simp
theorem keepsLedger_laneSense (l : LaneId) (rq : Request) : KeepsLedger (handleLaneSense l rq) :=
  KeepsLedger.of_ledger fun s => by
    rw [handleLaneSense, State.ledger_answer]
    exact s.ledger_onLane_same l _ rfl
theorem keepsLedger_resumeSend (l : LaneId) (rq : Request) : KeepsLedger (handleResumeSend l rq) :=
  KeepsLedger.of_ledger fun s => by simp [handleResumeSend]
theorem keepsLedger_supply (l : LaneId) (rq : Request) : KeepsLedger (handleSupply l rq) := by
  refine KeepsLedger.of_ledger fun s => ?_
  unfold handleSupply
  dsimp only
  split
  · simp
  · split
    · simp
    · split
      · rw [State.ledger_goodLane, State.ledger_onLane_same _ _ _ rfl]
      · split <;> simp
theorem keepsLedger_setTrip (l : LaneId) (rq : Request) : KeepsLedger (handleSetTrip l rq) :=
  KeepsLedger.of_ledger fun s => by simp [handleSetTrip]
theorem keepsLedger_armWindow (l : LaneId) (rq : Request) : KeepsLedger (handleArmWindow l rq) := by
  refine KeepsLedger.of_ledger fun s => ?_
  unfold handleArmWindow
  split
  · simp
  · split_ifs <;> simp
theorem keepsLedger_cancelWindow (l : LaneId) (rq : Request) : KeepsLedger (handleCancelWindow l rq) :=
  KeepsLedger.of_ledger fun s => by simp [handleCancelWindow]
theorem keepsLedger_queueStrokes (l : LaneId) (rq : Request) : KeepsLedger (handleQueueStrokes l rq) := by
  refine KeepsLedger.of_ledger fun s => ?_
  unfold handleQueueStrokes
  dsimp only
  split
  · simp
  · split_ifs <;> simp
theorem keepsLedger_stopStrokes (l : LaneId) (rq : Request) : KeepsLedger (handleStopStrokes l rq) := by
  refine KeepsLedger.of_ledger fun s => ?_
  unfold handleStopStrokes
  dsimp only
  split
  · simp
  · rw [State.ledger_onStrokes, State.ledger_onStrokes]
theorem keepsLedger_setStrokeTiming (l : LaneId) (rq : Request) : KeepsLedger (handleSetStrokeTiming l rq) :=
  KeepsLedger.of_ledger fun s => by simp [handleSetStrokeTiming]
theorem keepsLedger_setLamp (l : LaneId) (rq : Request) : KeepsLedger (handleSetLamp l rq) := by
  refine KeepsLedger.of_ledger fun s => ?_
  unfold handleSetLamp
  split
  · simp
  · rw [State.ledger_goodLane, State.ledger_onLane_same _ _ _ rfl]
theorem keepsLedger_keepPhone (l : LaneId) (rq : Request) : KeepsLedger (handleKeepPhone l rq) := by
  refine KeepsLedger.of_ledger fun s => ?_
  unfold handleKeepPhone
  dsimp only
  split_ifs
  · simp
  · simp
  · rw [State.ledger_goodLane, State.ledger_onLane_same _ _ _ rfl]

/-! Lane scope: requests on the marks, the sends and the link. -/

/-- R62: the clamps keep the marks in order and above the occupancy. -/
theorem marks_clamped (body : List Byte) {cap high low occupancy : Nat} (h9 : 9 ≤ high) (hle : high ≤ cap) (hocc : occupancy ≤ cap) :
    9 ≤ highAfter body (capAfter body occupancy cap) high ∧
      highAfter body (capAfter body occupancy cap) high ≤ capAfter body occupancy cap ∧
      lowAfter body (highAfter body (capAfter body occupancy cap) high) low + 9 ≤
        highAfter body (capAfter body occupancy cap) high ∧ occupancy ≤ capAfter body occupancy cap := by
  have hcap : 9 ≤ capAfter body occupancy cap ∧ occupancy ≤ capAfter body occupancy cap := by
    unfold capAfter clamp
    split <;> omega
  generalize capAfter body occupancy cap = cap' at hcap ⊢
  have hhigh : 9 ≤ highAfter body cap' high ∧ highAfter body cap' high ≤ cap' := by
    unfold highAfter clamp
    split <;> omega
  generalize highAfter body cap' high = high' at hhigh ⊢
  have hlow : lowAfter body high' low ≤ high' - 9 := by
    unfold lowAfter clamp
    split <;> omega
  omega

theorem LaneState.ledger_applyOptions (body : List Byte) (L : LaneState) : (L.applyOptions body).ledger =
    { L.ledger with
      cap := (optionsAfter body L.occupancy L.options).cap
      high := (optionsAfter body L.occupancy L.options).high
      low := (optionsAfter body L.occupancy L.options).low } := by
  unfold LaneState.applyOptions LaneState.evalPack LaneState.evalEligible
  split_ifs <;> rfl

theorem keepsLedger_setLaneOptions (l : LaneId) (rq : Request) : KeepsLedger (handleSetLaneOptions l rq) := by
  intro s
  unfold handleSetLaneOptions
  split
  · rw [State.ledger_goodLane, State.ledger_squeezeAfterOptions, State.ledger_onLane, LaneState.ledger_applyOptions]
    refine s.ledger.keeps_marks l _ _ _ fun hm => ?_
    obtain ⟨h9, hle, -, hocc⟩ := hm
    exact marks_clamped rq.body h9 hle hocc
  · exact s.keeps_refuseLane _ l rq

/-- R51, R67: an accepted SEND_PACKET takes its cells. -/
theorem keepsLedger_sendPacket (l : LaneId) (rq : Request) : KeepsLedger (handleSendPacket l rq) := by
  intro s
  unfold handleSendPacket
  extract_lets r
  split_ifs with _ _ hr
  · exact s.keeps_refuseLane _ l rq
  · exact s.keeps_refuseLane _ l rq
  · exact s.keeps_refuseLane _ l rq
  · obtain ⟨-, hroom⟩ := (s.acceptsSend_iff l r).1 (Bool.not_eq_false _ ▸ hr)
    have hsends : ({ s.lane l with send := { (s.lane l).send with queue := (s.lane l).send.queue ++ [r] } } : LaneState).ledger =
        { (s.lane l).ledger with sends := (s.ledger.lanes l).sends + r.cells } := by
      have hq : sendCells ((s.lane l).sends ++ [r]) = (s.ledger.lanes l).sends + r.cells := by
        rw [sendCells_append]; rfl
      simp only [← hq, LaneState.ledger, LaneState.sends, List.append_assoc]
    rw [State.ledger_onLane, State.lane_takeDown, hsends]
    exact s.ledger.keeps_take l r.cells hroom
theorem keepsLedger_flushLane (l : LaneId) (rq : Request) : KeepsLedger (handleFlushLane l rq) := by
  intro s
  unfold handleFlushLane
  dsimp only
  split
  · exact (s.keeps_flushDown l).goodLane _ l rq
  · exact (s.keeps_discardUpstream l).goodLane _ l rq
  · exact ((s.keeps_flushDown l).trans (State.keeps_discardUpstream _ l)).goodLane _ l rq
  · exact s.keeps_refuseLane _ l rq
theorem keepsLedger_laneReset (l : LaneId) (rq : Request) : KeepsLedger (handleLaneReset l rq) := fun s =>
  (((s.keeps_resetSends l).trans (State.keeps_linkLaneReset _ l)).trans (State.keeps_resetFixture _ l)).goodLane _ l rq
theorem keepsLedger_linkReset (l : LaneId) (rq : Request) : KeepsLedger (handleLinkReset l rq) := by
  intro s
  unfold handleLinkReset
  split
  · exact s.keeps_refuseLane _ l rq
  · exact s.keeps_refuseLane _ l rq
  · exact (s.keeps_linkReattach l).goodLane _ l rq
theorem keepsLedger_setLink (l : LaneId) (rq : Request) : KeepsLedger (handleSetLink l rq) := by
  intro s
  unfold handleSetLink
  dsimp only
  split_ifs
  · exact s.keeps_refuseLane _ l rq
  · exact (s.keeps_linkOff l).goodLane _ l rq
  · exact (Ledger.Keeps.of_eq (s.ledger_linkOn l)).goodLane _ l rq

/-- A handling that answers and changes nothing else. -/
theorem keepsLedger_answer (rq : Request) (st : Status) (body : State → List Byte) :
    KeepsLedger fun s => s.answer rq st (body s) := KeepsLedger.of_ledger fun _ => rfl

/-- Every request command is the arrival of a frame whose handling keeps the accounts. -/
theorem exec_request_keepsLedger {i : Instr} {rq : Request} (h : requestOf i = some rq) :
    ∃ handle, KeepsLedger (handle rq) ∧ ∀ s, exec i s = .next (arrive rq handle s) := by
  cases i with
  | unknownRequest o lane code tag body =>
    simp only [requestOf] at h
    split at h
    · cases h
    · next hn =>
      cases h
      refine ⟨fun r t => t.refuseForm .unknownRequest r, .of_ledger fun t => t.ledger_refuseForm _ _, fun s => ?_⟩
      simp only [exec, execUnknownRequest, if_neg hn]
  | deviceStatus o lane tag body =>
    cases h; exact ⟨_, .deviceRequest (fun rq => keepsLedger_answer rq _ _) _ _, fun _ => rfl⟩
  | deviceReset o lane tag body => cases h; exact ⟨_, .deviceRequest keepsLedger_deviceReset _ _, fun _ => rfl⟩
  | configurePool o lane tag body => cases h; exact ⟨_, .deviceRequest keepsLedger_configurePool _ _, fun _ => rfl⟩
  | setClassActions o lane tag body => cases h; exact ⟨_, .deviceRequest keepsLedger_setClassActions _ _, fun _ => rfl⟩
  | readClassActions o lane tag body =>
    cases h; exact ⟨_, .deviceRequest (fun rq => keepsLedger_answer rq _ _) _ _, fun _ => rfl⟩
  | openNotices o lane tag body => cases h; exact ⟨_, .deviceRequest keepsLedger_openNotices _ _, fun _ => rfl⟩
  | closeNotices o lane tag body => cases h; exact ⟨_, .deviceRequest keepsLedger_closeNotices _ _, fun _ => rfl⟩
  | setPacing o lane tag body => cases h; exact ⟨_, .deviceRequest keepsLedger_setPacing _ _, fun _ => rfl⟩
  | startStrokes o lane tag body => cases h; exact ⟨_, .deviceRequest keepsLedger_startStrokes _ _, fun _ => rfl⟩
  | deviceSense o lane tag body => cases h; exact ⟨_, .deviceRequest keepsLedger_deviceSense _ _, fun _ => rfl⟩
  | claimLane o lane tag body => cases h; exact ⟨_, .laneRequest keepsLedger_claimLane _ _ _, fun _ => rfl⟩
  | yieldLane o lane tag body => cases h; exact ⟨_, .laneRequest keepsLedger_yieldLane _ _ _, fun _ => rfl⟩
  | breakClaim o lane tag body => cases h; exact ⟨_, .laneRequest keepsLedger_breakClaim _ _ _, fun _ => rfl⟩
  | laneStatus o lane tag body =>
    cases h; exact ⟨_, .laneRequest (fun _ rq => keepsLedger_answer rq _ _) _ _ _, fun _ => rfl⟩
  | laneSense o lane tag body => cases h; exact ⟨_, .laneRequest keepsLedger_laneSense _ _ _, fun _ => rfl⟩
  | laneIdentity o lane tag body =>
    cases h; exact ⟨_, .laneRequest (fun _ rq => keepsLedger_answer rq _ _) _ _ _, fun _ => rfl⟩
  | setLaneOptions o lane tag body => cases h; exact ⟨_, .laneRequest keepsLedger_setLaneOptions _ _ _, fun _ => rfl⟩
  | laneReset o lane tag body => cases h; exact ⟨_, .laneRequest keepsLedger_laneReset _ _ _, fun _ => rfl⟩
  | sendPacket o lane tag body => cases h; exact ⟨_, .laneRequest keepsLedger_sendPacket _ _ _, fun _ => rfl⟩
  | resumeSend o lane tag body => cases h; exact ⟨_, .laneRequest keepsLedger_resumeSend _ _ _, fun _ => rfl⟩
  | flushLane o lane tag body => cases h; exact ⟨_, .laneRequest keepsLedger_flushLane _ _ _, fun _ => rfl⟩
  | linkReset o lane tag body => cases h; exact ⟨_, .laneRequest keepsLedger_linkReset _ _ _, fun _ => rfl⟩
  | setLink o lane tag body => cases h; exact ⟨_, .laneRequest keepsLedger_setLink _ _ _, fun _ => rfl⟩
  | supply o lane tag body => cases h; exact ⟨_, .laneRequest keepsLedger_supply _ _ _, fun _ => rfl⟩
  | setTrip o lane tag body => cases h; exact ⟨_, .laneRequest keepsLedger_setTrip _ _ _, fun _ => rfl⟩
  | armWindow o lane tag body => cases h; exact ⟨_, .laneRequest keepsLedger_armWindow _ _ _, fun _ => rfl⟩
  | cancelWindow o lane tag body => cases h; exact ⟨_, .laneRequest keepsLedger_cancelWindow _ _ _, fun _ => rfl⟩
  | readWindow o lane tag body =>
    cases h; exact ⟨_, .laneRequest (fun _ rq => keepsLedger_answer rq _ _) _ _ _, fun _ => rfl⟩
  | queueStrokes o lane tag body => cases h; exact ⟨_, .laneRequest keepsLedger_queueStrokes _ _ _, fun _ => rfl⟩
  | stopStrokes o lane tag body => cases h; exact ⟨_, .laneRequest keepsLedger_stopStrokes _ _ _, fun _ => rfl⟩
  | setStrokeTiming o lane tag body => cases h; exact ⟨_, .laneRequest keepsLedger_setStrokeTiming _ _ _, fun _ => rfl⟩
  | setLamp o lane tag body => cases h; exact ⟨_, .laneRequest keepsLedger_setLamp _ _ _, fun _ => rfl⟩
  | keepPhone o lane tag body => cases h; exact ⟨_, .laneRequest keepsLedger_keepPhone _ _ _, fun _ => rfl⟩
  | _ => cases h

end Sys2Proof.Machine
end

section
/-! The accounts of the packet memory under every other command, and the two invariants that the ledger keeps (R49 to R54,
R57, R62). -/

namespace Sys2Proof.Machine

/-- A command that keeps the accounts. -/
def KeepsLedgerExec (f : State → Answer) : Prop := ∀ s : State, ∃ t, f s = .next t ∧ s.ledger.Keeps t.ledger

/-- Time passes, and then a state follows. -/
theorem State.keeps_advance {s t : State} (d : Nat) (h : (s.advance d).ledger.Keeps t.ledger) : s.ledger.Keeps t.ledger :=
  s.ledger_advance d ▸ h
theorem State.ledger_advance_onLane (s : State) (d : Nat) (l : LaneId) {f : LaneState → LaneState}
    (h : ∀ L, (f L).ledger = L.ledger) : ((s.advance d).onLane l f).ledger = s.ledger :=
  (State.ledger_onLane_same _ l f (h _)).trans (s.ledger_advance d)
theorem State.keeps_zeroErrors {s t : State} {l : LaneId} (h : (s.zeroErrors l).ledger.Keeps t.ledger) :
    s.ledger.Keeps t.ledger := s.ledger_zeroErrors l ▸ h

/-! Lines and attaches (R25 to R33). -/

theorem keepsLedger_lineStateChange (l : LaneId) (shows : Bool) : KeepsLedgerExec (execLineStateChange l shows) :=
  fun s => ⟨_, rfl, .of_eq (s.ledger_onLink l _ rfl)⟩
theorem keepsLedger_connectDetection (l : LaneId) : KeepsLedgerExec (execConnectDetection l) := fun s => ⟨_, rfl, by
  split
  · exact .of_eq rfl
  · exact .of_eq ((State.ledger_linkConnect _ l).trans (s.ledger_advance_onLane _ l fun _ => rfl))⟩
theorem keepsLedger_disconnectDetection (l : LaneId) : KeepsLedgerExec (execDisconnectDetection l) := fun s => ⟨_, rfl, by
  split
  · have ht := s.ledger_onLink l (fun _ n => { n with connectPresent := false, line := false, connectQual := none }) rfl
    exact (Ledger.Keeps.of_eq ht).trans (State.keeps_linkDisconnect _ l)
  · exact .of_eq rfl⟩
theorem keepsLedger_portResetEnd (l : LaneId) (b : Bool) : KeepsLedgerExec (execPortResetEnd l b) := fun s => ⟨_, rfl, by
  split
  · exact .of_eq ((State.ledger_setPhase _ _ l).trans (s.ledger_advance_onLane _ l fun _ => rfl))
  · exact .of_eq rfl⟩
theorem keepsLedger_enumerationTransferDone (l : LaneId) (r : EnumResult) :
    KeepsLedgerExec (execEnumerationTransferDone l r) := fun s => ⟨_, rfl, by
  split
  · next stage _ =>
    have ht : (s.onLane l fun L => L.onLink (Link.enumerated stage r)).ledger = s.ledger :=
      s.ledger_onLink l _ (by simp)
    dsimp only
    split <;> exact .of_eq (by simp only [State.ledger_setPhase, State.ledger_attachFails, ht])
  · exact .of_eq rfl⟩
theorem keepsLedger_attachRetryExpiry (l : LaneId) : KeepsLedgerExec (execAttachRetryExpiry l) := fun s => ⟨_, rfl, by
  split
  · exact .of_eq (by simp)
  · exact .of_eq (by simp)
  · exact .of_eq rfl⟩
theorem keepsLedger_identityTransactionDone (l : LaneId) (r : IdentityResult) :
    KeepsLedgerExec (execIdentityTransactionDone l r) := fun s => ⟨_, rfl, by
  split
  · split <;> exact .of_eq (by simp)
  · exact .of_eq rfl⟩
theorem keepsLedger_identityReadTimeout (l : LaneId) : KeepsLedgerExec (execIdentityReadTimeout l) := fun s => ⟨_, rfl, by
  split
  · exact .of_eq (by simp)
  · exact .of_eq rfl⟩
theorem keepsLedger_attachTimerExpiry (l : LaneId) : KeepsLedgerExec (execAttachTimerExpiry l) := fun s => ⟨_, rfl, by
  split
  · exact .of_eq (by simp)
  · exact .of_eq rfl⟩

/-! The engines (R36 to R43). -/

/-- R38: the record at the head of the queue becomes the send in flight. -/
theorem keepsLedger_sendStart (l : LaneId) : KeepsLedgerExec (execSendStart l) := fun s => ⟨_, rfl, by
  split
  · exact .of_eq rfl
  · next r rest hq =>
    split
    · next hm =>
      have hidle : (s.lane l).link.out = .idle := by simp_all [LaneState.maySend]
      refine .of_eq ?_
      rw [State.setOut, State.onLane_onLane]
      exact s.ledger_onLane_same l _ (by simp [LaneState.ledger, LaneState.sends, LaneState.onLink, hq, hidle, sendingFor,
        OutEngine.flight])
    · exact .of_eq rfl⟩
theorem keepsLedger_outTransactionDone (l : LaneId) (r : OutResult) : KeepsLedgerExec (execOutTransactionDone l r) :=
  fun s => ⟨_, rfl, by
  split
  · next f left ho =>
    have hz : ((s.zeroErrors l).lane l).link.out = .sending f left := by simp [State.zeroErrors, LaneState.onLink, ho]
    have ht : (((s.zeroErrors l).tookOut l).lane l).link.out = .sending f left := by
      rw [State.tookOut, State.lane_onLane_self]; exact hz
    cases r with
    | accepted =>
      have hs : ((s.zeroErrors l).tookOut l).ledger = s.ledger := by simp
      dsimp only
      split
      · exact (Ledger.Keeps.of_eq hs).trans (State.keeps_sendSucceeds _ f l (by rw [ht]; rfl))
      · exact .of_eq (by rw [State.ledger_setOut _ _ _ (by rw [ht]; rfl), hs])
    | nak => exact .of_eq (by rw [State.ledger_setOut _ _ _ (by rw [hz]), State.ledger_zeroErrors])
    | stall =>
      dsimp only
      rw [State.ledger_needClearing]
      exact State.keeps_zeroErrors (State.keeps_sendRefused _ _ f l (by rw [hz]; rfl))
    | transportError =>
      refine s.keeps_transportError 0 l _ fun t ht he => ?_
      split
      · exact ht ▸ t.keeps_linkFault 0 l
      · exact .of_eq (by rw [State.retryWait, State.ledger_setOut _ _ _ (by rw [he, ho]; rfl), ht])
  · exact .of_eq rfl
  · exact .of_eq rfl⟩
theorem keepsLedger_sendTimerExpiry (l : LaneId) : KeepsLedgerExec (execSendTimerExpiry l) := fun s => ⟨_, rfl, by
  split
  · next f left ho =>
    have hf : ((s.advance left).lane l).link.out.flight = some f := by rw [State.flight_advance, ho]; rfl
    refine State.keeps_advance left ?_
    split
    · exact State.keeps_sendRefused _ _ f l hf
    · exact .of_eq (State.ledger_setOut _ _ _ (by rw [hf]; rfl))
  · exact .of_eq rfl
  · exact .of_eq rfl⟩
theorem keepsLedger_retryWaitEnd (l : LaneId) : KeepsLedgerExec (execRetryWaitEnd l) := fun s => ⟨_, rfl, by
  split
  · next f left ho =>
    exact State.keeps_advance left (.of_eq (State.ledger_setOut _ _ _ (by rw [State.flight_advance, ho]; rfl)))
  · exact .of_eq rfl
  · exact .of_eq rfl⟩
theorem keepsLedger_stallClearingDone (l : LaneId) (r : ClearResult) : KeepsLedgerExec (execStallClearingDone l r) :=
  fun s => ⟨_, rfl, by
  split
  · next e rest _ _ =>
    have hd : ((s.zeroErrors l).onLane l fun L => L.onLink (Link.clearingEnds e rest)).ledger = s.ledger := by
      rw [State.ledger_onLink _ _ _ (by cases e <;> rfl), State.ledger_zeroErrors]
    cases r with
    | cleared => exact .of_eq hd
    | stall => exact .of_eq hd
    | nak => exact .of_eq rfl
    | transportError =>
      exact s.keeps_transportError _ l _ fun t ht _ => .of_eq (by rw [State.ledger_onLink _ _ _ rfl, ht])
  · exact .of_eq rfl⟩
theorem keepsLedger_stallClearingRetry (l : LaneId) : KeepsLedgerExec (execStallClearingRetry l) := fun s => ⟨_, rfl, by
  split
  · exact .of_eq (s.ledger_advance_onLane _ l fun _ => rfl)
  · exact .of_eq rfl⟩
theorem keepsLedger_pollIssue (l : LaneId) : KeepsLedgerExec (execPollIssue l) := fun s => ⟨_, rfl, by
  split <;> exact .of_eq (by simp)⟩
theorem keepsLedger_inTransactionDone (l : LaneId) (r : InResult) : KeepsLedgerExec (execInTransactionDone l r) :=
  fun s => ⟨_, rfl, by
  split
  · cases r with
    | data toggle bytes =>
      dsimp only
      split
      · exact s.keeps_pollError _ l
      · exact .of_eq (s.ledger_zeroErrors l)
      · exact .of_eq (by simp)
      · exact (Ledger.Keeps.of_eq (by simp)).trans (State.keeps_packetEnds ((s.zeroErrors l).tookIn l) _ _ l)
    | nak =>
      dsimp only
      split <;> exact .of_eq (by simp)
    | stall => exact .of_eq (by simp)
    | transportError => exact s.keeps_pollError _ l
  · exact .of_eq rfl⟩
theorem keepsLedger_pollNakTimeout (l : LaneId) : KeepsLedgerExec (execPollNakTimeout l) := fun s => ⟨_, rfl, by
  split
  · exact State.keeps_advance _ (State.keeps_transportError _ 1 l _ fun t ht _ => .of_eq (by rw [State.ledger_setIn, ht]))
  · exact .of_eq rfl
  · exact .of_eq rfl⟩
theorem keepsLedger_pollWaitEnd (l : LaneId) : KeepsLedgerExec (execPollWaitEnd l) := fun s => ⟨_, rfl, by
  split
  · exact .of_eq (by simp)
  · split <;> exact .of_eq (by simp)
  · exact .of_eq rfl
  · exact .of_eq rfl⟩

/-! The collector, the fixture and the arbiter. -/

theorem keepsLedger_packTimerExpiry (l : LaneId) : KeepsLedgerExec (execPackTimerExpiry l) := fun s => ⟨_, rfl, by
  split
  · exact .of_eq (s.ledger_advance_onLane _ l fun _ => rfl)
  · exact .of_eq rfl⟩
theorem keepsLedger_sampleEvent (l : LaneId) (v : Fin 4096) : KeepsLedgerExec (execSampleEvent l v) := fun s => ⟨_, rfl, by
  split <;> exact .of_eq (by simp)⟩
theorem keepsLedger_startInstant (l : LaneId) : KeepsLedgerExec (execStartInstant l) := fun s => ⟨_, rfl, by
  split <;> exact .of_eq (by simp)⟩
theorem keepsLedger_stepEnd (l : LaneId) : KeepsLedgerExec (execStepEnd l) := fun s => ⟨_, rfl, by
  split <;> exact .of_eq (by simp)⟩
theorem keepsLedger_releaseGapEnd (l : LaneId) : KeepsLedgerExec (execReleaseGapEnd l) := fun s => ⟨_, rfl, by
  split <;> exact .of_eq (by simp)⟩
theorem keepsLedger_retractEnd (l : LaneId) : KeepsLedgerExec (execRetractEnd l) := fun s => ⟨_, rfl, by
  split
  · exact .of_eq (by rw [State.ledger_foldl fun t w => t.ledger_answerStop l w, State.ledger_onStrokes, State.ledger_advance])
  · exact .of_eq rfl⟩
theorem keepsLedger_nestInputChange (l : LaneId) (b : Bool) : KeepsLedgerExec (execNestInputChange l b) :=
  fun s => ⟨_, rfl, .of_eq (s.ledger_onLane_same l _ rfl)⟩
theorem keepsLedger_nestQualificationEnd (l : LaneId) : KeepsLedgerExec (execNestQualificationEnd l) :=
  fun s => ⟨_, rfl, by
  split
  · next left _ =>
    extract_lets t
    have ht : t.ledger = s.ledger := s.ledger_advance_onLane left l fun _ => rfl
    split
    · exact .of_eq (by rw [State.ledger_nestSeated, ht])
    · exact (Ledger.Keeps.of_eq ht).trans (t.keeps_nestEmptied l)
  · exact .of_eq rfl⟩
theorem keepsLedger_activityTimerExpiry (l : LaneId) : KeepsLedgerExec (execActivityTimerExpiry l) := fun s => ⟨_, rfl, by
  split
  · exact .of_eq (s.ledger_advance_onLane _ l fun _ => rfl)
  · exact .of_eq rfl⟩
theorem keepsLedger_pacingTimerExpiry (o : Originator) : KeepsLedgerExec (execPacingTimerExpiry o) := fun s => ⟨_, rfl, by
  split <;> exact .of_eq (by simp)⟩
theorem keepsLedger_frameBuild : KeepsLedgerExec execFrameBuild := fun s => ⟨_, rfl, by
  split
  · next hb =>
    split
    · next hf => exact State.keeps_buildFrame (Bool.and_eq_true_iff.1 hb).2 hf
    · exact .of_eq rfl
  · exact .of_eq rfl⟩
theorem keepsLedger_inTransferDone : KeepsLedgerExec execInTransferDone := fun s => ⟨_, rfl, by
  split
  · split
    · next hf => exact State.keeps_transferred hf
    · exact .of_eq rfl
  · exact .of_eq rfl⟩

/-! The port, and the OUT side. -/

theorem keepsLedger_setConfiguration : KeepsLedgerExec execSetConfiguration := fun s => ⟨_, rfl, by
  split <;> exact .of_eq rfl⟩
theorem keepsLedger_deconfigure : KeepsLedgerExec execDeconfigure := fun s => ⟨_, rfl, by
  split
  · exact s.keeps_leaveConfigured _
  · exact .of_eq rfl⟩
theorem keepsLedger_busReset : KeepsLedgerExec execBusReset := fun s => ⟨_, rfl, by
  split
  · exact .of_eq rfl
  · exact .of_eq rfl
  · exact State.keeps_leaveConfigured { s with suspended := false } _⟩
theorem keepsLedger_vbusLoss : KeepsLedgerExec execVbusLoss := fun s => ⟨_, rfl, by
  dsimp only
  split
  · exact .of_eq rfl
  · exact .of_eq rfl
  · exact State.keeps_leaveConfigured { s with vbus := false, suspended := false } _⟩
theorem keepsLedger_vbusPresent : KeepsLedgerExec execVbusPresent := fun s => ⟨_, rfl, by
  split <;> exact .of_eq rfl⟩
theorem keepsLedger_suspend : KeepsLedgerExec execSuspend := fun s => ⟨_, rfl, by
  split <;> exact .of_eq rfl⟩
theorem keepsLedger_hardReset : KeepsLedgerExec execHardReset := fun _ => ⟨_, rfl, State.keeps_deviceReset _ _ _⟩
theorem keepsLedger_hardResetRelease : KeepsLedgerExec execHardResetRelease := fun s => ⟨_, rfl, by
  split
  · exact State.keeps_deviceReset _ _ _
  · exact .of_eq rfl⟩
theorem keepsLedger_outDataPacket (bytes : List Byte) : KeepsLedgerExec (execOutDataPacket bytes) := fun s => ⟨_, rfl, by
  split <;> exact .of_eq rfl⟩
theorem keepsLedger_frameDiscarded (bytes : List Byte) : KeepsLedgerExec (execFrameDiscarded bytes) := fun s => ⟨_, rfl, by
  extract_lets t
  have ht : t.ledger = s.ledger := by
    unfold t
    split_ifs <;> rfl
  split
  · exact .of_eq ht
  · exact .of_eq rfl⟩

/-! ### Every command -/

theorem exec_keepsLedger (i : Instr) : KeepsLedgerExec (exec i) := by
  cases hq : requestOf i with
  | some rq =>
    obtain ⟨handle, hk, he⟩ := exec_request_keepsLedger hq
    exact fun s => ⟨_, he s, keepsLedger_arrive hk s⟩
  | none =>
    cases i with
    | frameDiscarded bytes => exact keepsLedger_frameDiscarded bytes
    | unknownRequest o lane code tag body =>
      simp only [requestOf] at hq
      split at hq
      · next hn => exact fun s => ⟨s, by simp only [exec, execUnknownRequest, if_pos hn], .of_eq rfl⟩
      · cases hq
    | outResume => exact fun s => ⟨_, rfl, .of_eq rfl⟩
    | setConfiguration => exact keepsLedger_setConfiguration
    | deconfigure => exact keepsLedger_deconfigure
    | busReset => exact keepsLedger_busReset
    | vbusLoss => exact keepsLedger_vbusLoss
    | vbusPresent => exact keepsLedger_vbusPresent
    | suspend => exact keepsLedger_suspend
    | resume => exact fun s => ⟨_, rfl, .of_eq rfl⟩
    | hardReset => exact keepsLedger_hardReset
    | frameBuild => exact keepsLedger_frameBuild
    | inTransferDone => exact keepsLedger_inTransferDone
    | pacingTimerExpiry o => exact keepsLedger_pacingTimerExpiry o
    | lineStateChange l shows => exact keepsLedger_lineStateChange l shows
    | connectDetection l => exact keepsLedger_connectDetection l
    | disconnectDetection l => exact keepsLedger_disconnectDetection l
    | portResetEnd l b => exact keepsLedger_portResetEnd l b
    | enumerationTransferDone l r => exact keepsLedger_enumerationTransferDone l r
    | attachRetryExpiry l => exact keepsLedger_attachRetryExpiry l
    | identityTransactionDone l r => exact keepsLedger_identityTransactionDone l r
    | identityReadTimeout l => exact keepsLedger_identityReadTimeout l
    | attachTimerExpiry l => exact keepsLedger_attachTimerExpiry l
    | sendStart l => exact keepsLedger_sendStart l
    | outTransactionDone l r => exact keepsLedger_outTransactionDone l r
    | sendTimerExpiry l => exact keepsLedger_sendTimerExpiry l
    | retryWaitEnd l => exact keepsLedger_retryWaitEnd l
    | stallClearingDone l r => exact keepsLedger_stallClearingDone l r
    | stallClearingRetry l => exact keepsLedger_stallClearingRetry l
    | pollIssue l => exact keepsLedger_pollIssue l
    | inTransactionDone l r => exact keepsLedger_inTransactionDone l r
    | pollNakTimeout l => exact keepsLedger_pollNakTimeout l
    | pollWaitEnd l => exact keepsLedger_pollWaitEnd l
    | packTimerExpiry l => exact keepsLedger_packTimerExpiry l
    | sampleEvent l v => exact keepsLedger_sampleEvent l v
    | startInstant l => exact keepsLedger_startInstant l
    | stepEnd l => exact keepsLedger_stepEnd l
    | releaseGapEnd l => exact keepsLedger_releaseGapEnd l
    | retractEnd l => exact keepsLedger_retractEnd l
    | nestInputChange l b => exact keepsLedger_nestInputChange l b
    | nestQualificationEnd l => exact keepsLedger_nestQualificationEnd l
    | activityTimerExpiry l => exact keepsLedger_activityTimerExpiry l
    | hardResetRelease => exact keepsLedger_hardResetRelease
    | outDataPacket bytes => exact keepsLedger_outDataPacket bytes
    | _ => cases hq

/-- A step is the front command, or the passing of time. -/
theorem step_keepsLedger {s t : State} (h : step s = .next t) : s.ledger.Keeps t.ledger := by
  unfold step at h
  split at h
  · obtain rfl := Host.Outcome.next.inj h
    unfold State.idle
    split
    · exact .of_eq rfl
    · exact .of_eq (s.ledger_advance 1)
  · next c rest _ =>
    obtain ⟨u, hu, hs⟩ := exec_keepsLedger c { s with pending := rest }
    obtain rfl := Host.Outcome.next.inj (hu.symm.trans h)
    exact hs

/-- Settles O58: an admission passes the cap's test, SET_LANE_OPTIONS clamps the marks above the occupancy, and nothing else
raises the occupancy or moves a mark. -/
theorem marksStaySound : Obligations.MarksStaySound := fun _ _ hs ht => (step_keepsLedger ht).marks hs

/-- Settles O59: every command moves the counts with what is stored. -/
theorem cellAccountsStaySound : Obligations.CellAccountsStaySound := fun s t hs ht =>
  t.cellsSound_iff.2 ((step_keepsLedger ht).cells (s.cellsSound_iff.1 hs))

end Sys2Proof.Machine
end

section
/-! The four steps of an arrival (R84 to R89): length, class, sequence and admission, each in the words of the spec. -/

namespace Sys2Proof.Machine

/-! ### The length and class steps (R84 to R87) -/

/-- R85: a packet over the limit that is not kept is counted as damaged. -/
theorem State.arrival_not_kept {s : State} {kept : List Byte} {count : Nat} {l : LaneId} (h : (s.lane l).lengthLimit < count)
    (hk : (s.lane l).options.keepDamaged = false) :
    s.arrival kept count l = s.onLane l fun L => L.onUpstream fun u => { u with damaged := u.damaged + 1 } := by
  simp [State.arrival, Nat.not_le.2 h, hk]

/-- R85: every other packet goes on, cut at the limit and marked where it was over it. -/
theorem State.arrival_kept {s : State} {kept : List Byte} {count : Nat} {l : LaneId}
    (h : count ≤ (s.lane l).lengthLimit ∨ (s.lane l).options.keepDamaged = true) : s.arrival kept count l =
      s.classStep (if count ≤ (s.lane l).lengthLimit then kept else kept.take (s.lane l).lengthLimit)
        (decide ((s.lane l).lengthLimit < count)) l := by
  unfold State.arrival
  by_cases hc : count ≤ (s.lane l).lengthLimit
  · simp only [hc, if_true, Nat.not_lt.2 hc, decide_false]
  · simp only [hc, if_false, if_pos (h.resolve_left hc), Nat.not_le.1 hc, decide_true]

/-- R87: a class that is discarded. -/
theorem State.classStep_discard {s : State} {data : List Byte} {l : LaneId} (damaged : Bool)
    (ha : s.classAction (classOf data) = .discard) (hp : (s.lane l).options.promiscuous = false) :
    s.classStep data damaged l = s := by simp [State.classStep, ha, hp, effectiveAction]

/-- R87: a class that is counted. -/
theorem State.classStep_count {s : State} {data : List Byte} {l : LaneId} (damaged : Bool)
    (ha : s.classAction (classOf data) = .count) (hp : (s.lane l).options.promiscuous = false) :
    s.classStep data damaged l = s.onLane l fun L => L.onUpstream fun u => { u with counted := u.counted + 1 } := by
  simp [State.classStep, ha, hp, effectiveAction]

/-- R87: a class that is delivered, by its own action or because the lane is promiscuous. -/
theorem State.classStep_deliver {s : State} {data : List Byte} {l : LaneId} (damaged : Bool)
    (h : ¬ (s.classAction (classOf data) = .discard ∨ s.classAction (classOf data) = .count) ∨
      (s.lane l).options.promiscuous = true) :
    s.classStep data damaged l = s.sequenceStep data damaged (decide (s.classAction (classOf data) = .urgent)) l := by
  unfold State.classStep
  cases ha : s.classAction (classOf data) with
  | deliver => rfl
  | urgent => rfl
  | discard =>
    have hp : (s.lane l).options.promiscuous = true := h.resolve_left fun hn => hn (.inl ha)
    simp [effectiveAction, hp]
  | count =>
    have hp : (s.lane l).options.promiscuous = true := h.resolve_left fun hn => hn (.inr ha)
    simp [effectiveAction, hp]

/-! ### The sequence and admission steps (R54, R55, R58, R88 to R92) -/

/-- R88, R89, R91, R92: a lane's collector after a packet has joined its queue. -/
def LaneState.collected (p : PacketRecord) (L : LaneState) : Upstream :=
  { L.upstream with
    queue := L.upstream.queue ++ [p]
    seq := L.upstream.seq + 1
    drops := 0
    firstPending := false
    eligible := if packReady L.options (L.upstream.queue ++ [p]) = true then true else L.upstream.eligible
    packTimer := if packReady L.options (L.upstream.queue ++ [p]) = true then none
      else if L.upstream.queue = [] then packStart L.options else L.upstream.packTimer }

/-- R54, R58, R88, R89: an admitted packet takes its number, joins its lane's queue and takes its cells there. -/
theorem LaneState.takeIn_eq (p : PacketRecord) (L : LaneState) :
    (L.onUpstream fun u => { u with seq := u.seq + 1 }).takeIn p = { L with
      upstream := L.collected p
      occupancy := L.occupancy + p.cells
      flowHeld := if L.options.high ≤ L.occupancy + p.cells then true else L.flowHeld } := by
  have hheld (b : Bool) (c : Prop) [Decidable c] : (decide c || b) = if c then true else b := by by_cases hc : c <;> simp [hc]
  rw [LaneState.takeIn, LaneState.recordsJoined_eq _ _ (by simp [LaneState.onUpstream]), LaneState.holdAfterAdmission, hheld]
  rfl

/-- R54, R59, R88, R89: a packet that passes both tests. -/
theorem State.sequenceStep_admitted {s : State} {data : List Byte} {damaged urgent : Bool} {l : LaneId} {p : PacketRecord}
    (hp : (s.lane l).newRecord data (s.lane l).upstream.seq damaged urgent = p) (h : s.admits (s.lane l) p.cells = true) :
    s.sequenceStep data damaged urgent l = (s.setLane l { s.lane l with
      upstream := (s.lane l).collected p
      occupancy := (s.lane l).occupancy + p.cells
      flowHeld := if (s.lane l).options.high ≤ (s.lane l).occupancy + p.cells then true
        else (s.lane l).flowHeld }).enterSqueeze := by
  subst hp
  rw [State.sequenceStep, if_pos h, State.onLane_onLane, State.squeezeAfterAdmission_eq, State.onLane_eq_setLane,
    LaneState.takeIn_eq]

/-- R55, R88: a packet that one of them refuses takes its number all the same, and is an overrun. -/
theorem State.sequenceStep_refused {s : State} {data : List Byte} {damaged urgent : Bool} {l : LaneId}
    (h : ¬ s.admits (s.lane l) ((s.lane l).newRecord data (s.lane l).upstream.seq damaged urgent).cells = true) :
    s.sequenceStep data damaged urgent l = ((s.onLane l fun L => L.onUpstream fun u =>
      { u with seq := u.seq + 1, drops := min 255 (u.drops + 1) }).recordAsync
        (.upstreamOverrun (s.lane l).upstream.seq.toNat) l).offerLane .overrun l := by
  rw [State.sequenceStep, if_neg h, State.overrun, State.onLane_onLane]
  rfl

/-- Settles O49: the length step is `arrival_kept`, the class step the three cases of `classStep`, and the last two are
`sequenceStep_admitted` and `sequenceStep_refused`, with `admits_iff` for the tests and `packReady_iff` for eligibility. -/
theorem arrivalsAreJudgedInFourSteps : Obligations.ArrivalsAreJudgedInFourSteps := by
  rintro s l L kept count rfl
  intro limit data damaged action lost cells borrows free fits record queue ripe
  have hripe : packReady (s.lane l).options queue = true ↔ ripe := packReady_iff _ _
  have hfits : s.admits (s.lane l) record.cells = true ↔ fits := s.admits_iff _ _
  refine ⟨State.arrival_not_kept, fun hlen => ?_⟩
  have ha : s.arrival kept count l = s.classStep data damaged l := State.arrival_kept hlen
  refine ⟨fun hd hp => ha.trans (State.classStep_discard _ hd hp), fun hc hp => ha.trans (State.classStep_count _ hc hp),
    fun hdel => ?_⟩
  have hseq := ha.trans (State.classStep_deliver damaged hdel)
  refine ⟨fun hf => ⟨(s.lane l).collected record, hseq.trans (State.sequenceStep_admitted rfl (hfits.2 hf)), rfl,
    fun hr => ?_, fun hr => ?_⟩, fun hf => hseq.trans (State.sequenceStep_refused fun h => hf (hfits.1 h))⟩
  · exact ⟨if_pos (hripe.2 hr), if_pos (hripe.2 hr)⟩
  · have hready := mt hripe.1 hr
    have htimer : (s.lane l).options.packTimer ≠ 0 := fun h => hr (.inl h)
    refine ⟨if_neg hready, (if_neg hready).trans ?_⟩
    rw [packStart, if_neg htimer]

end Sys2Proof.Machine
end

section
/-! RESUME_SEND and FLUSH_LANE (R76 to R78): the branches of a flush by its scope byte, and the discard of an upstream queue. -/

namespace Sys2Proof.Machine

/-- R57, R78: the discard empties the queue and stops its timer, and gives the cells of the queue back. -/
theorem State.discardUpstream_eq (s : State) (l : LaneId) : s.discardUpstream l = s.upstreamDiscarded l := by
  rw [State.discardUpstream, State.releaseUp_eq, State.onLane_onLane, State.upstreamDiscarded, State.onLane_eq_setLane,
    State.onLane_eq_setLane]
  rfl

/-- R77, R78: the branches of FLUSH_LANE: DOWN, UP, BOTH, and a scope that is none of them. -/
theorem handleFlushLane_cases {s : State} {l : LaneId} {rq : Request} {n : Nat} (hn : byteAt rq.body 0 = n) :
    (n = 1 → handleFlushLane l rq s =
      (s.flushDown l).goodLane (flushBody (s.lane l).send.queue.length 0 0 false) l rq) ∧
    (n = 2 → handleFlushLane l rq s = (s.upstreamDiscarded l).goodLane
      (flushBody 0 (s.lane l).upstream.queue.length (recordCells (s.lane l).upstream.queue) (s.lane l).send.halted) l rq) ∧
    (n = 3 → handleFlushLane l rq s = ((s.flushDown l).upstreamDiscarded l).goodLane
      (flushBody (s.lane l).send.queue.length (s.lane l).upstream.queue.length
        (recordCells (s.lane l).upstream.queue) false) l rq) ∧
    (n = 0 ∨ 3 < n → handleFlushLane l rq s = s.refuseLane .badField l rq) := by
  unfold handleFlushLane
  simp only [State.discardUpstream_eq, hn]
  refine ⟨?_, ?_, ?_, fun h => ?_⟩
  · exact fun h => by subst h; rfl
  · exact fun h => by subst h; rfl
  · exact fun h => by subst h; rfl
  · split
    case h_1 | h_2 | h_3 => omega
    case h_4 => rfl

/-- Settles O31: each scope is a branch of `handleFlushLane_cases`; RESUME_SEND has one branch only. -/
theorem resumeAndFlush : Obligations.ResumeAndFlush := by
  rintro s o l tag L hs hp rfl down
  have hresume : exec (.resumeSend o (laneByte l) tag []) s =
      .next (handleResumeSend l ⟨o, laneByte l, 0x21, tag, []⟩ s) :=
    congrArg Host.Outcome.next (arrive_laneRequest hs hp oneReply_resumeSend 0x21 tag [] rfl (by simp))
  have hflush (scope : Byte) : exec (.flushLane o (laneByte l) tag [scope]) s =
      .next (handleFlushLane l ⟨o, laneByte l, 0x22, tag, [scope]⟩ s) :=
    congrArg Host.Outcome.next (arrive_laneRequest hs hp oneReply_flushLane 0x22 tag [scope] rfl (by simp))
  have hcases (scope : Byte) :=
    handleFlushLane_cases (s := s) (l := l) (rq := ⟨o, laneByte l, 0x22, tag, [scope]⟩) (n := scope.toNat) rfl
  refine ⟨?_, ?_, ?_, ?_, fun scope hscope => ?_⟩
  · rw [hresume, handleResumeSend, State.goodLane_eq _ _ _ _ rfl]
    rfl
  · obtain ⟨hdown, -, -, -⟩ := hcases 1
    rw [hflush, hdown rfl, State.goodLane_eq _ _ _ _ rfl]
    rfl
  · obtain ⟨-, hup, -, -⟩ := hcases 2
    rw [hflush, hup rfl, State.goodLane_eq _ _ _ _ rfl]
    rfl
  · obtain ⟨-, -, hboth, -⟩ := hcases 3
    rw [hflush, hboth rfl, State.goodLane_eq _ _ _ _ rfl]
    rfl
  · obtain ⟨-, -, -, hbad⟩ := hcases scope
    rw [hflush, hbad (hscope.imp_left (congrArg BitVec.toNat)), State.refuseLane_eq _ _ _ _ rfl]

end Sys2Proof.Machine
end

section
/-! The upstream collector's DATA_UP frames (R93, R94) and the requests on the class table (R96, R97). -/

namespace Sys2Proof.Machine

/-! ### The records of a DATA_UP frame (R93) -/

theorem takeRecords_of_not_fits {room : Nat} {p : PacketRecord} (ps : List PacketRecord)
    (h : room < p.data.length + 8) : takeRecords room (p :: ps) = ([], p :: ps) := by
  rw [takeRecords, if_pos h]

theorem takeRecords_of_urgent {room : Nat} {p : PacketRecord} (ps : List PacketRecord)
    (h : p.data.length + 8 ≤ room) (hu : p.urgent = true) : takeRecords room (p :: ps) = ([p], ps) := by
  rw [takeRecords, if_neg (Nat.not_lt.2 h), if_pos hu]

theorem takeRecords_of_fits {room : Nat} {p : PacketRecord} {ps taken stay : List PacketRecord}
    (h : p.data.length + 8 ≤ room) (hu : p.urgent = false)
    (hr : takeRecords (room - (p.data.length + 8)) ps = (taken, stay)) :
    takeRecords room (p :: ps) = (p :: taken, stay) := by
  rw [takeRecords, if_neg (Nat.not_lt.2 h), if_neg (by simp [hu]), hr]

theorem queuedBytes_cons (p : PacketRecord) (ps : List PacketRecord) :
    queuedBytes (p :: ps) = p.data.length + 8 + queuedBytes ps := by
  simp [queuedBytes]

/-- R93, step 2: how a frame with `room` body bytes splits a queue whose first record fits. -/
theorem takeRecords_spec (room : Nat) (p : PacketRecord) (ps : List PacketRecord) (h : p.data.length + 8 ≤ room) :
    ∃ taken last stay, takeRecords room (p :: ps) = (taken ++ [last], stay) ∧ taken ++ last :: stay = p :: ps ∧
      queuedBytes (taken ++ [last]) ≤ room ∧ (∀ q ∈ taken, q.urgent = false) ∧
      ∀ q more, stay = q :: more →
        last.urgent = true ∨ room < queuedBytes (taken ++ [last]) + (q.data.length + 8) := by
  have hone (p : PacketRecord) : queuedBytes [p] = p.data.length + 8 := queuedBytes_cons p []
  induction ps generalizing room p with
  | nil =>
    refine ⟨[], p, [], ?_, rfl, (hone p).trans_le h, by simp, by simp⟩
    cases hu : p.urgent with
    | true => exact takeRecords_of_urgent [] h hu
    | false => exact takeRecords_of_fits h hu rfl
  | cons q qs ih =>
    cases hu : p.urgent with
    | true => exact ⟨[], p, q :: qs, takeRecords_of_urgent _ h hu, rfl, (hone p).trans_le h, by simp, fun _ _ _ => .inl hu⟩
    | false =>
      by_cases hq : q.data.length + 8 ≤ room - (p.data.length + 8)
      · obtain ⟨taken, last, stay, hr, hsplit, hbytes, hplain, hstop⟩ := ih _ q hq
        have hsum : queuedBytes (p :: taken ++ [last]) = p.data.length + 8 + queuedBytes (taken ++ [last]) :=
          queuedBytes_cons p _
        exact ⟨p :: taken, last, stay, takeRecords_of_fits h hu hr, congrArg (p :: ·) hsplit, by omega,
          List.forall_mem_cons.2 ⟨hu, hplain⟩, fun r more hstay => (hstop r more hstay).imp_right fun _ => by omega⟩
      · refine ⟨[], p, q :: qs, takeRecords_of_fits h hu (takeRecords_of_not_fits qs (Nat.lt_of_not_le hq)), rfl,
          (hone p).trans_le h, by simp, fun r more hstay => .inr ?_⟩
        obtain ⟨rfl, -⟩ := List.cons.inj hstay
        rw [List.nil_append, hone]
        omega

/-- Settles O15: by R83's bound on a record's length the first record always fits. -/
theorem dataUpTakesTheHeadOfTheQueue : Obligations.DataUpTakesTheHeadOfTheQueue := by
  intro queue hne hlen
  cases queue with
  | nil => exact absurd rfl hne
  | cons p ps =>
    have hp : p.data.length ≤ 1024 := hlen p List.mem_cons_self
    exact takeRecords_spec 4096 p ps (by omega)

/-! ### The choice of the lane (R94) -/

/-- R94: the normal class is served where it has a candidate, and the run is 8 or the priority class has none. -/
theorem State.chooseLane_normal {s : State} {n : LaneId} (hn : NextAfter s.normPointer (s.isCandidate false) n)
    (h : 8 ≤ s.runCount ∨ ∀ p, ¬ s.isCandidate true p) :
    s.chooseLane = some (n, { s with normPointer := n, runCount := 0 }) := by
  simp only [State.chooseLane, firstAfter_eq_some (s.candidate_iff false) hn]
  rcases h with hrun | hnone
  · cases firstAfter s.prioPointer fun l => (s.lane l).candidate true with
    | none => rfl
    | some p => exact if_pos hrun
  · rw [firstAfter_eq_none (s.candidate_iff true) hnone]

/-- R94: the priority class is served where it has a candidate, and the run is below 8 or the normal class has none. -/
theorem State.chooseLane_priority {s : State} {p : LaneId} (hp : NextAfter s.prioPointer (s.isCandidate true) p)
    (h : s.runCount < 8 ∨ ∀ n, ¬ s.isCandidate false n) :
    s.chooseLane = some (p, { s with prioPointer := p, runCount := min 8 (s.runCount + 1) }) := by
  simp only [State.chooseLane, firstAfter_eq_some (s.candidate_iff true) hp]
  rcases h with hrun | hnone
  · cases firstAfter s.normPointer fun l => (s.lane l).candidate false with
    | none => rfl
    | some n => exact if_neg (Nat.not_le.2 hrun)
  · rw [firstAfter_eq_none (s.candidate_iff false) hnone]

theorem State.chooseLane_none {s : State} (h : ∀ b l, ¬ s.isCandidate b l) : s.chooseLane = none := by
  simp only [State.chooseLane, firstAfter_eq_none (s.candidate_iff true) (h true),
    firstAfter_eq_none (s.candidate_iff false) (h false)]

/-- Settles O16: with no candidate at all neither class is served; otherwise one of the two choices above is made. -/
theorem laneChoiceAlternatesClasses : Obligations.LaneChoiceAlternatesClasses := fun _ =>
  ⟨fun _ => State.chooseLane_normal, fun _ => State.chooseLane_priority, State.chooseLane_none⟩

/-! ### The class table (R86, R96, R97) -/

theorem ClassAction.ofCode_toNat_code (a : ClassAction) : ClassAction.ofCode (BitVec.ofNat 8 a.code).toNat = some a := by
  cases a <;> rfl

theorem ClassAction.ofCode_eq_none {n : Nat} (h : 3 < n) : ClassAction.ofCode n = none := by
  obtain ⟨m, rfl⟩ : ∃ m, n = m + 4 := ⟨n - 4, by omega⟩
  rfl

/-- R96: the bytes of a list of actions name that list. -/
theorem actionsOf_map_code (as : List ClassAction) : actionsOf (as.map fun a => BitVec.ofNat 8 a.code) = some as := by
  induction as with
  | nil => rfl
  | cons a as ih => rw [List.map_cons, actionsOf, ClassAction.ofCode_toNat_code, ih]

/-- R96: one byte above 3 spoils the list. -/
theorem actionsOf_eq_none {bs : List Byte} (h : ∃ b ∈ bs, 3 < b.toNat) : actionsOf bs = none := by
  induction bs with
  | nil => simp at h
  | cons b bs ih =>
    rw [actionsOf]
    obtain ⟨c, hc, hbad⟩ := h
    rcases List.mem_cons.1 hc with rfl | hc
    · rw [ClassAction.ofCode_eq_none hbad]
    · rw [ih ⟨c, hc, hbad⟩]
      cases ClassAction.ofCode b.toNat <;> rfl

/-- R96: entry by entry, the table after a run of actions is written from `first` on. -/
theorem getElem_writeActions (first : Nat) (as : List ClassAction) (t : Vector ClassAction 256) (i : Fin 256) :
    (writeActions first as t)[i] = if first ≤ i.val then as.getD (i.val - first) t[i] else t[i] := by
  simp [writeActions]

/-- R97: the reported run lies within the table, so that a reported action is its class's entry. -/
theorem getElem?_take_drop_classes (t : Vector ClassAction 256) {first n : Nat} {i : Nat} (hi : i < n) {k : Fin 256}
    (hk : k.val = first + i) :
    (((t.toList.drop first).take n).map fun a => (BitVec.ofNat 8 a.code : Byte))[i]? =
      some (BitVec.ofNat 8 t[k].code) := by
  simp [List.getElem?_take_of_lt hi, ← hk]

theorem byteAt_cons_zero (b : Byte) (bs : List Byte) : byteAt (b :: bs) 0 = b.toNat := rfl

/-- R9, step 1: a well-addressed device-scope request of a body length that its row does not have is refused. -/
theorem exec_deviceRequest_badLength {i : Instr} {o : Originator} {code tag : Byte} {body : List Byte} {r : RequestRow}
    {s : State} (hs : s.hears) (hi : requestOf i = some ⟨o, 255, code, tag, body⟩) (hb : body.length ≤ 4096)
    (hr : requestRow code = some r) (hd : r.device = true) (hl : r.fitsLength body.length = false) :
    exec i s = .next (s.checkDevice .badLength code tag o) := by
  obtain ⟨handle, hdis, he⟩ := exec_of_hears hi hs hb
  have hf : (⟨o, 255, code, tag, body⟩ : Request).formFault = some .badLength := by
    simp [Request.formFault, hr, RequestRow.fitsLane, hd, hl]
  rw [he, hdis.handle_of_fault hf]
  rfl

/-- R96: SET_CLASS_ACTIONS of an allowed length is handled by its block. -/
theorem exec_setClassActions {s : State} (hs : s.hears) (o : Originator) (tag first : Byte) {actions : List Byte}
    (hne : actions ≠ []) (hlen : actions.length ≤ 256) : exec (.setClassActions o 255 tag (first :: actions)) s =
      .next (handleSetClassActions ⟨o, 255, 0x04, tag, first :: actions⟩ s) := by
  have hpos : 0 < actions.length := List.length_pos_iff.2 hne
  have hok : (decide (2 ≤ (first :: actions).length) && decide ((first :: actions).length ≤ 257)) = true := by
    simp only [List.length_cons, Bool.and_eq_true, decide_eq_true_eq]
    omega
  simp only [exec, execSetClassActions]
  rw [arrive_deviceRequest hs oneReply_setClassActions o 0x04 tag _ hok (by simp only [List.length_cons]; omega)]

/-- Settles O21: the length decides first, then the action bytes; the reported run is a cut of the table. -/
theorem classTableRequests : Obligations.ClassTableRequests := by
  intro s o tag first hs
  refine ⟨fun actions hne hlen => ⟨writeActions first.toNat actions s.classes, getElem_writeActions _ _ _, ?_⟩,
    fun actions hlen hbad => ?_, fun body hb hlen => ?_, fun body hb hlen => ?_, fun c0 c1 => ?_⟩
  · rw [exec_setClassActions hs o tag first (by simpa using hne) (by simpa using hlen), handleSetClassActions]
    simp only [List.drop_one, List.tail_cons, actionsOf_map_code, byteAt_cons_zero, le8_toNat]
    rfl
  · have hne : actions ≠ [] := by
      obtain ⟨a, ha, -⟩ := hbad
      exact List.ne_nil_of_mem ha
    rw [exec_setClassActions hs o tag first hne hlen, handleSetClassActions]
    simp only [List.drop_one, List.tail_cons, actionsOf_eq_none hbad]
    rfl
  · refine exec_deviceRequest_badLength hs rfl hb (r := ⟨true, true, false, 2, 257, 1⟩) rfl rfl ?_
    simp only [RequestRow.fitsLength, Bool.and_eq_false_iff, decide_eq_false_iff_not]
    omega
  · refine exec_deviceRequest_badLength hs rfl hb (r := ⟨true, false, false, 3, 3, 1⟩) rfl rfl ?_
    rw [← exactly_eq_fitsLength]
    exact decide_eq_false hlen
  · have hn : readCount first.toNat (c0.toNat + 256 * c1.toNat) =
        min (max 1 (min (c0.toNat + 256 * c1.toNat) 256)) (256 - first.toNat) := rfl
    rw [← hn]
    refine ⟨((s.classes.toList.drop first.toNat).take _).map fun a => BitVec.ofNat 8 a.code, ?_,
      fun i hi k hk => getElem?_take_drop_classes s.classes hi hk, ?_⟩
    · simp [readCount]
    · simp only [exec, execReadClassActions]
      rw [arrive_deviceRequest hs oneReply_readClassActions o 0x05 tag [first, c0, c1] rfl (by simp),
        handleReadClassActions]
      simp only [byteAt_cons_zero, le8_toNat]
      rfl

end Sys2Proof.Machine
end

section
/-! Lane ownership (R104 to R107): the branches of CLAIM_LANE, YIELD_LANE and BREAK_CLAIM. -/

namespace Sys2Proof.Machine

/-- A claim request of an allowed length, from a requester with no attention pending, is handled by its block. -/
theorem arrive_claims {s : State} {o : Originator} {l : LaneId} (hs : s.hears) (hz : (s.lane l).sense[o].causes = 0)
    {ok : Nat → Bool} {handle : LaneId → Request → State → State} (hh : ∀ l rq, OneReply (handle l rq))
    (code tag : Byte) (body : List Byte) (hl : ok body.length = true) (hb : body.length ≤ 4096) :
    arrive ⟨o, laneByte l, code, tag, body⟩ (laneRequest .claims ok handle) s =
      handle l ⟨o, laneByte l, code, tag, body⟩ s := by
  rw [arrive_of_hears hs _ hb _ ((OneReply.laneRequest hh .claims ok _).rx s), laneRequest_claims _ _ _ _ _ _ _ _ hl hz]

/-! ### CLAIM_LANE (R104, R105) -/

theorem exec_claimLane {s : State} {o : Originator} {l : LaneId} (hs : s.hears) (hz : (s.lane l).sense[o].causes = 0)
    (tag : Byte) {body : List Byte} (hb : body.length ≤ 1) :
    exec (.claimLane o (laneByte l) tag body) s = .next (handleClaimLane l ⟨o, laneByte l, 0x10, tag, body⟩ s) :=
  congrArg Host.Outcome.next
    (arrive_claims hs hz oneReply_claimLane 0x10 tag body (decide_eq_true hb) (hb.trans (by decide)))

/-- R104: with no on-behalf-of byte the requester is meant. -/
theorem namedBeneficiary_nil (o : Originator) (lane code tag : Byte) :
    namedBeneficiary ⟨o, lane, code, tag, []⟩ = some o := rfl

/-- R104: an on-behalf-of byte names its originator. -/
theorem namedBeneficiary_cons (o n : Originator) (lane code tag : Byte) {b : Byte} (hb : b.toNat = n.val) (rest : List Byte) :
    namedBeneficiary ⟨o, lane, code, tag, b :: rest⟩ = some n :=
  (dif_pos (hb ▸ n.isLt)).trans (congrArg some (Fin.ext hb))

/-- R104: a byte above 7 names none. -/
theorem namedBeneficiary_eq_none (o : Originator) (lane code tag : Byte) {b : Byte} (hb : 7 < b.toNat) (rest : List Byte) :
    namedBeneficiary ⟨o, lane, code, tag, b :: rest⟩ = none :=
  dif_neg (by omega)

/-- R104: the branches of CLAIM_LANE: a FREE lane, the requester's own, another's, and a field that names no originator. -/
theorem handleClaimLane_free {s : State} {l : LaneId} {rq : Request} {n : Originator} (hn : namedBeneficiary rq = some n)
    (hc : (s.lane l).claim = none) : handleClaimLane l rq s =
      (s.setClaim (some ⟨rq.originator, n, s.timebase⟩) l).goodLane (claimBody ⟨rq.originator, n, s.timebase⟩) l rq := by
  simp only [handleClaimLane, hn, hc]
theorem handleClaimLane_own {s : State} {l : LaneId} {rq : Request} {n : Originator} {c : Claim}
    (hn : namedBeneficiary rq = some n) (hc : (s.lane l).claim = some c) (ho : c.holder = rq.originator) :
    handleClaimLane l rq s =
      (s.setClaim (some { c with beneficiary := n }) l).goodLane (claimBody { c with beneficiary := n }) l rq := by
  simp only [handleClaimLane, hn, hc, if_pos ho]
theorem handleClaimLane_other {s : State} {l : LaneId} {rq : Request} {n : Originator} {c : Claim}
    (hn : namedBeneficiary rq = some n) (hc : (s.lane l).claim = some c) (ho : c.holder ≠ rq.originator) :
    handleClaimLane l rq s = s.answer rq .conflict (conflictSense none) := by
  simp only [handleClaimLane, hn, hc, if_neg ho]
theorem handleClaimLane_badField {s : State} {l : LaneId} {rq : Request} (hn : namedBeneficiary rq = none) :
    handleClaimLane l rq s = s.refuseLane .badField l rq := by
  simp only [handleClaimLane, hn]

/-- Settles O25: both forms of the body name a beneficiary, and each claim entry is a branch of `handleClaimLane`. -/
theorem claimLaneTakesOrRepoints : Obligations.ClaimLaneTakesOrRepoints := by
  intro s o n l tag body hs hz
  refine ⟨fun hbody => ?_, fun b hb => ?_⟩
  · obtain ⟨hlen, hn⟩ : body.length ≤ 1 ∧ namedBeneficiary ⟨o, laneByte l, 0x10, tag, body⟩ = some n := by
      rcases hbody with ⟨rfl, rfl⟩ | ⟨b, rfl, hb⟩
      · exact ⟨Nat.zero_le 1, namedBeneficiary_nil ..⟩
      · exact ⟨Nat.le_refl 1, namedBeneficiary_cons _ _ _ _ _ hb _⟩
    rw [exec_claimLane hs hz tag hlen]
    refine ⟨fun hc => ?_, fun c hc => ⟨?_, fun ho => ?_⟩⟩
    · rw [handleClaimLane_free hn hc, State.goodLane_eq _ _ _ _ rfl]
      rfl
    · rintro rfl
      rw [handleClaimLane_own hn hc rfl, State.goodLane_eq _ _ _ _ rfl]
      rfl
    · rw [handleClaimLane_other hn hc ho]
      rfl
  · rw [exec_claimLane hs hz tag (body := [b]) (Nat.le_refl 1), handleClaimLane_badField (namedBeneficiary_eq_none _ _ _ _ hb _),
      State.refuseLane_eq _ _ _ _ rfl]

/-! ### YIELD_LANE and BREAK_CLAIM (R106, R107) -/

/-- R106: who releases a lane. -/
theorem yields_iff (third : Bool) (o : Originator) (claim : Option Claim) : yields third o claim = true ↔
    ∃ c, claim = some c ∧ c.holder = o ∧ (third = false ∨ c.beneficiary ≠ o) := by
  cases claim <;> simp [yields]

/-- R106: the branches of YIELD_LANE. -/
theorem handleYieldLane_cases {s : State} {l : LaneId} {rq : Request} {n : Nat} (hn : byteAt rq.body 0 = n) :
    (1 < n → handleYieldLane l rq s = s.refuseLane .badField l rq) ∧
    (n ≤ 1 → yields (n == 1) rq.originator (s.lane l).claim = true →
      handleYieldLane l rq s = (s.setClaim none l).goodLane [1] l rq) ∧
    (n ≤ 1 → yields (n == 1) rq.originator (s.lane l).claim = false → handleYieldLane l rq s = s.goodLane [0] l rq) := by
  subst hn
  exact ⟨fun h => if_pos h, fun h hy => (if_neg h.not_gt).trans (if_pos hy),
    fun h hy => (if_neg h.not_gt).trans (if_neg (by simp [hy]))⟩

/-- An attention cause leaves the claim, so that an event may be offered before or after it is set. -/
theorem State.offerLane_setAttention (s : State) (k : EventKind) (cause : BitVec 8) (l : LaneId) :
    (s.setAttention cause l).offerLane k l = (s.offerLane k l).setAttention cause l :=
  s.offerLane_setLane k l _ rfl

/-- R107: BREAK_CLAIM on a FREE lane, and on a HELD one, whose event is offered beside the change of the lane. -/
theorem handleBreakClaim_free {s : State} {l : LaneId} {rq : Request} (hc : (s.lane l).claim = none) :
    handleBreakClaim l rq s = s.goodLane [0, 0xFF, 0xFF] l rq := by
  simp only [handleBreakClaim, hc]
  rfl
theorem handleBreakClaim_held {s : State} {l : LaneId} {rq : Request} {c : Claim} (hc : (s.lane l).claim = some c) :
    handleBreakClaim l rq s = ((s.offerLane .claimBroken l).onLane l fun L =>
      { L with
        claim := none
        sense := Vector.ofFn fun p => { L.sense[p] with causes := L.sense[p].causes ||| 16 } }).goodLane
      [1, originatorByte c.holder, originatorByte c.beneficiary] l rq := by
  simp only [handleBreakClaim, hc, State.offerLane_setAttention]
  simp only [State.setAttention, State.setClaim, State.onLane_onLane]
  rfl

/-- Settles O26: each case is a branch of `handleYieldLane_cases` or of BREAK_CLAIM. -/
theorem yieldAndBreakRelease : Obligations.YieldAndBreakRelease := by
  intro s o l tag third hs hz
  have hy : exec (.yieldLane o (laneByte l) tag [third]) s =
      .next (handleYieldLane l ⟨o, laneByte l, 0x11, tag, [third]⟩ s) :=
    congrArg Host.Outcome.next (arrive_claims hs hz oneReply_yieldLane 0x11 tag [third] rfl (by simp))
  have hb : exec (.breakClaim o (laneByte l) tag []) s = .next (handleBreakClaim l ⟨o, laneByte l, 0x12, tag, []⟩ s) :=
    congrArg Host.Outcome.next (arrive_claims hs hz oneReply_breakClaim 0x12 tag [] rfl (by simp))
  have hthird : (third.toNat == 1) = (third == 1) := by
    rw [Bool.eq_iff_iff, beq_iff_eq, beq_iff_eq, ← BitVec.toNat_inj]
    rfl
  obtain ⟨hbad, hyield, hkeep⟩ :=
    handleYieldLane_cases (s := s) (l := l) (rq := ⟨o, laneByte l, 0x11, tag, [third]⟩) (byteAt_cons_zero third [])
  rw [hthird, yields_iff] at hyield
  rw [hthird, Bool.eq_false_iff, ne_eq, yields_iff] at hkeep
  refine ⟨fun h => ?_, fun h1 => ⟨fun c hc ho hr => ?_, fun hr => ?_⟩, fun hc => ?_, fun c hc => ?_⟩
  · rw [hy, hbad h, State.refuseLane_eq _ _ _ _ rfl]
  · have hout : (third == 1) = false ∨ c.beneficiary ≠ o := hr.imp_left (by rintro rfl; rfl)
    rw [hy, hyield h1 ⟨c, hc, ho, hout⟩, State.goodLane_eq _ _ _ _ rfl]
    rfl
  · have hstay : ¬ ∃ c, (s.lane l).claim = some c ∧ c.holder = o ∧ ((third == 1) = false ∨ c.beneficiary ≠ o) := by
      rintro ⟨c, hc, ho, hout⟩
      rcases hr c hc with hne | ⟨rfl, hself⟩
      · exact hne ho
      · exact hout.elim (by decide) fun hne => hne hself
    rw [hy, hkeep h1 hstay, State.goodLane_eq _ _ _ _ rfl]
  · rw [hb, handleBreakClaim_free hc, State.goodLane_eq _ _ _ _ rfl]
  · rw [hb, handleBreakClaim_held hc, State.goodLane_eq _ _ _ _ rfl]

end Sys2Proof.Machine
end

section
/-! START_STROKES (R121, R127, R149, R150): the lanes that it names, its four tests, and what it makes of every named lane. -/

namespace Sys2Proof.Machine

/-! ### Lane by lane -/

/-- The same change, made on some lanes one after the other, is made once on each of them. -/
theorem State.lane_foldl_onLane (f : LaneState → LaneState) {ls : List LaneId} (hn : ls.Nodup) (s : State) (k : LaneId) :
    (ls.foldl (fun t l => t.onLane l f) s).lane k = if k ∈ ls then f (s.lane k) else s.lane k := by
  induction ls generalizing s with
  | nil => rfl
  | cons l ls ih =>
    obtain ⟨hl, hn⟩ := List.nodup_cons.1 hn
    rw [List.foldl_cons, ih hn, State.lane_onLane]
    by_cases hk : l = k
    · subst hk
      simp [hl]
    · simp [hk, Ne.symm hk]

/-- It leaves everything but the lanes. -/
theorem State.foldl_onLane_frame (f : LaneState → LaneState) (ls : List LaneId) (s : State) :
    { ls.foldl (fun t l => t.onLane l f) s with lanes := s.lanes } = s := by
  have h : ∀ t : State, { t with lanes := s.lanes } = s →
      { ls.foldl (fun t l => t.onLane l f) t with lanes := s.lanes } = s := by
    induction ls with
    | nil => exact fun t ht => ht
    | cons l ls ih => exact fun t ht => ih (t.onLane l f) ht
  exact h s rfl

/-! ### The named lanes -/

theorem mem_namedLanes {n : Nat} {l : LaneId} : l ∈ namedLanes n ↔ n.testBit l.val = true := by simp [namedLanes]

theorem nodup_namedLanes (n : Nat) : (namedLanes n).Nodup := (List.nodup_finRange 24).filter _

/-- R149: a search of the named lanes finds the lowest of them that fails a test. -/
theorem find?_namedLanes_eq_some {n : Nat} {fails : LaneId → Bool} {bad : LaneId → Prop} {l : LaneId}
    (hb : ∀ k, fails k = true ↔ bad k) (h : Lowest (fun k => n.testBit k.val = true ∧ bad k) l) :
    (namedLanes n).find? fails = some l := by
  obtain ⟨hl, hlow⟩ := h
  have hfails (k : LaneId) :
      decide (n.testBit k.val = true ∧ fails k = true) = true ↔ n.testBit k.val = true ∧ bad k := by
    rw [decide_eq_true_iff, hb]
  rw [namedLanes, List.find?_filter, ← Fin.find?_eq_find?_finRange, Fin.find?_eq_some_iff]
  exact ⟨(hfails l).2 hl, fun k hk => Bool.eq_false_iff.2 fun hf => hlow k hk ((hfails k).1 hf)⟩

theorem find?_namedLanes_eq_none {n : Nat} {fails : LaneId → Bool} {bad : LaneId → Prop}
    (hb : ∀ k, fails k = true ↔ bad k) (h : ∀ k : LaneId, n.testBit k.val = true → ¬ bad k) :
    (namedLanes n).find? fails = none :=
  List.find?_eq_none.2 fun k hk hf => h k (mem_namedLanes.1 hk) ((hb k).1 hf)

theorem namedLanes_ne_nil {n : Nat} {l : LaneId} (h : n.testBit l.val = true) : namedLanes n ≠ [] :=
  List.ne_nil_of_mem (mem_namedLanes.2 h)

/-! ### The four tests -/

/-- R127: the first named lane with attention pending is the first that a search for one finds. -/
theorem State.attentionLanes_of_find? {s : State} {o : Originator} {ls : List LaneId} {l : LaneId}
    (h : ls.find? (fun k => (s.lane k).attentionOf o != 0) = some l) : ∃ more, s.attentionLanes o ls = l :: more := by
  rw [← List.head?_filter] at h
  exact List.head?_eq_some_iff.1 h
theorem State.attentionLanes_eq_nil {s : State} {o : Originator} {ls : List LaneId}
    (h : ls.find? (fun k => (s.lane k).attentionOf o != 0) = none) : s.attentionLanes o ls = [] := by
  rw [← List.head?_filter] at h
  exact List.head?_eq_none_iff.1 h

theorem State.mem_attentionLanes {s : State} {o : Originator} {ls : List LaneId} {k : LaneId} :
    k ∈ s.attentionLanes o ls ↔ k ∈ ls ∧ (s.lane k).sense[o].causes ≠ 0 := by
  simp [State.attentionLanes, LaneState.attentionOf]

/-- R127: the union holds a cause where one of the lanes does. -/
theorem State.getLsbD_causesOf (s : State) (o : Originator) (ls : List LaneId) (b : Nat) :
    (s.causesOf o ls).getLsbD b = true ↔ ∃ k ∈ ls, (s.lane k).sense[o].causes.getLsbD b = true := by
  have h : ∀ c : BitVec 8, (ls.foldl (fun c l => c ||| (s.lane l).attentionOf o) c).getLsbD b = true ↔
      c.getLsbD b = true ∨ ∃ k ∈ ls, (s.lane k).sense[o].causes.getLsbD b = true := by
    induction ls with
    | nil => simp
    | cons l ls ih =>
      intro c
      rw [List.foldl_cons, ih, BitVec.getLsbD_or, Bool.or_eq_true, or_assoc, List.exists_mem_cons_iff]
      rfl
  refine (h 0).trans ?_
  simp

/-- R127: the union of the cause sets is that of all the named lanes: the others add nothing to it. -/
theorem State.getLsbD_causesOf_attentionLanes (s : State) (o : Originator) (n b : Nat) :
    (s.causesOf o (s.attentionLanes o (namedLanes n))).getLsbD b = true ↔
      ∃ k : LaneId, n.testBit k.val = true ∧ (s.lane k).sense[o].causes.getLsbD b = true := by
  rw [State.getLsbD_causesOf]
  refine exists_congr fun k => ?_
  have hne (hb : (s.lane k).sense[o].causes.getLsbD b = true) : (s.lane k).sense[o].causes ≠ 0 := by
    intro h0
    rw [h0] at hb
    simp at hb
  rw [State.mem_attentionLanes, mem_namedLanes, and_assoc, and_congr_right_iff]
  exact fun _ => and_iff_right_of_imp hne

/-- R102: who may not act on a lane. -/
theorem LaneState.not_mayAct_iff (L : LaneState) (o : Originator) :
    (!L.mayAct o) = true ↔ ∃ c, L.claim = some c ∧ c.beneficiary ≠ o := by
  cases hc : L.claim <;> simp [LaneState.mayAct, LaneState.isHeld, LaneState.benefits, hc]

theorem LaneState.strokesBusy_iff (L : LaneState) :
    L.strokesBusy = true ↔ L.strokes.state ≠ .idle ∨ L.strokes.queue = [] := by
  simp [LaneState.strokesBusy]

/-! ### What becomes of the named lanes -/

/-- R150, R121: a named lane after the request. -/
def LaneState.started (o : Originator) (now : Stamp) (L : LaneState) : LaneState :=
  (L.onStrokes (Strokes.startPending (startInstantOf now) (toStartInstant now))).onSense o Sense.clear

theorem State.startLanes_eq (o : Originator) (ls : List LaneId) (s : State) :
    s.startLanes o ls = ls.foldl (fun t l => t.onLane l (LaneState.started o s.timebase)) s := by
  simp only [State.startLanes, State.clearCondition, State.onLane_onLane]
  rfl

/-- R126: clearing a cause set that is empty changes nothing. -/
theorem LaneState.clearCauses_of_none {L : LaneState} {o : Originator} (h : L.sense[o].causes = 0) :
    L.onSense o Sense.clearCauses = L := by
  have hr : Sense.clearCauses L.sense[o] = L.sense[o] := by rw [Sense.clearCauses, ← h]
  rw [LaneState.onSense, hr]
  simp

/-- R126, R127: each named lane after a refusal for attention: those with attention pending lose it, and no other has any. -/
theorem State.lane_clearAttentions (s : State) (o : Originator) (n : Nat) (k : LaneId) :
    ((s.attentionLanes o (namedLanes n)).foldl (fun t l => t.clearAttention o l) s).lane k =
      if n.testBit k.val = true then (s.lane k).onSense o Sense.clearCauses else s.lane k := by
  have hnodup : (s.attentionLanes o (namedLanes n)).Nodup := (nodup_namedLanes n).filter _
  refine (State.lane_foldl_onLane (fun L => L.onSense o Sense.clearCauses) hnodup s k).trans ?_
  by_cases hn : n.testBit k.val = true
  · by_cases hc : (s.lane k).sense[o].causes = 0
    · rw [LaneState.clearCauses_of_none hc, ite_self, ite_self]
    · rw [if_pos (State.mem_attentionLanes.2 ⟨mem_namedLanes.2 hn, hc⟩), if_pos hn]
  · rw [if_neg fun hk => hn (mem_namedLanes.1 (State.mem_attentionLanes.1 hk).1), if_neg hn]

theorem State.lane_startLanes (s : State) (o : Originator) (n : Nat) (k : LaneId) :
    (s.startLanes o (namedLanes n)).lane k =
      if n.testBit k.val = true then (s.lane k).started o s.timebase else s.lane k := by
  rw [State.startLanes_eq, State.lane_foldl_onLane _ (nodup_namedLanes n)]
  simp only [mem_namedLanes]

/-! ### The request -/

/-- R149: a lane set that names no lane. -/
theorem handleStartStrokes_unnamed {s : State} {rq : Request} {n : Nat} (hn : u24At rq.body 0 = n)
    (h : namedLanes n = []) : handleStartStrokes rq s = s.refuseDevice .badField rq := by
  subst hn
  exact if_pos h

/-- R127: the first test. -/
theorem handleStartStrokes_attending {s : State} {rq : Request} {n : Nat} {l : LaneId} {ls more : List LaneId}
    (hn : u24At rq.body 0 = n) (hls : s.attentionLanes rq.originator (namedLanes n) = ls) (h : ls = l :: more) :
    handleStartStrokes rq s = (ls.foldl (fun t k => t.clearAttention rq.originator k) s).answer rq .check
      (attentionSense (s.causesOf rq.originator ls) (some l.val)) := by
  subst hn h
  have hne : namedLanes (u24At rq.body 0) ≠ [] := by
    have hl : l ∈ s.attentionLanes rq.originator (namedLanes (u24At rq.body 0)) := hls ▸ List.mem_cons_self
    exact List.ne_nil_of_mem (State.mem_attentionLanes.1 hl).1
  simp only [handleStartStrokes, if_neg hne, hls]

/-- R149, R150: the other three tests, one after the other, and the start. -/
theorem handleStartStrokes_cases {s : State} {rq : Request} {n : Nat} {ls : List LaneId} (hn : u24At rq.body 0 = n)
    (hls : namedLanes n = ls) (hne : ls ≠ []) (ha : s.attentionLanes rq.originator ls = []) :
    (∀ l, ls.find? (fun k => !(s.lane k).mayAct rq.originator) = some l →
      handleStartStrokes rq s = s.answer rq .conflict (conflictSense (some l.val))) ∧
    (ls.find? (fun k => !(s.lane k).mayAct rq.originator) = none →
      (∀ l, ls.find? (fun k => (s.lane k).strokesBusy) = some l →
        handleStartStrokes rq s = s.refuseDevice (.strokesBusy l.val) rq) ∧
      (ls.find? (fun k => (s.lane k).strokesBusy) = none →
        (∀ l, ls.find? (fun k => !(s.lane k).nest.seated) = some l →
          handleStartStrokes rq s = s.refuseDevice (.nestEmpty (some l.val)) rq) ∧
        (ls.find? (fun k => !(s.lane k).nest.seated) = none →
          handleStartStrokes rq s = (s.startLanes rq.originator ls).answer rq .good
            (le32 (startInstantOf s.timebase).toNat ++ le24 n)))) := by
  subst hn hls
  simp only [handleStartStrokes, if_neg hne, ha]
  refine ⟨fun l hl => ?_, fun howned => ⟨fun l hl => ?_, fun hbusy => ⟨fun l hl => ?_, fun hnest => ?_⟩⟩⟩
  · rw [hl]
  · rw [howned, hl]
  · rw [howned, hbusy, hl]
  · rw [howned, hbusy, hnest]

/-- Section 1.2: a three-byte field holds the number that its bytes give. -/
theorem le24_bytes (a b c : Byte) : le24 (a.toNat + 256 * b.toNat + 65536 * c.toNat) = [a, b, c] := by
  have ha := a.isLt
  have hb := b.isLt
  have hd : (a.toNat + 256 * b.toNat + 65536 * c.toNat) / 65536 = c.toNat := by omega
  have hlow : le16 (a.toNat + 256 * b.toNat + 65536 * c.toNat) = le16 (a.toNat + 256 * b.toNat) := by
    simp only [le16, List.cons.injEq, and_true, ← BitVec.toNat_inj, BitVec.toNat_ofNat]
    omega
  rw [le24, hd, hlow, le16_bytes]
  simp [le8]

/-- Settles O23: each test is a search of the named lanes that finds the lowest failing lane or none, and the two changes of
the named lanes are one change of each. -/
theorem startStrokesActsOnAllOrNone : Obligations.StartStrokesActsOnAllOrNone := by
  intro s o tag b0 b1 b2 hs named attends owned busy vacated i
  have hi : exec i s = .next (handleStartStrokes ⟨o, 255, 0x09, tag, [b0, b1, b2]⟩ s) :=
    congrArg Host.Outcome.next (arrive_deviceRequest hs oneReply_startStrokes o 0x09 tag [b0, b1, b2] rfl (by simp))
  have hattends (k : LaneId) : ((s.lane k).attentionOf o != 0) = true ↔ attends k := bne_iff_ne
  have howned (k : LaneId) : (!(s.lane k).mayAct o) = true ↔ owned k := LaneState.not_mayAct_iff _ o
  have hbusy (k : LaneId) : (s.lane k).strokesBusy = true ↔ busy k := LaneState.strokesBusy_iff _
  have hvacated (k : LaneId) : (!(s.lane k).nest.seated) = true ↔ vacated k := by rw [Bool.not_eq_true']
  have hset : u24At [b0, b1, b2] 0 = b0.toNat + 256 * b1.toNat + 65536 * b2.toNat := rfl
  refine ⟨fun h => ?_, fun l hl => ?_, fun hquiet => ?_⟩
  · rw [hi, handleStartStrokes_unnamed hset (List.eq_nil_iff_forall_not_mem.2 fun l hl => h l (mem_namedLanes.1 hl)),
      State.refuseDevice_eq _ _ _ rfl]
  · obtain ⟨more, hmore⟩ := State.attentionLanes_of_find? (find?_namedLanes_eq_some hattends hl)
    have hlane := s.lane_clearAttentions o (b0.toNat + 256 * b1.toNat + 65536 * b2.toNat)
    refine ⟨_, s.getLsbD_causesOf_attentionLanes o _, _, ?_, State.foldl_onLane_frame _ _ s,
      fun k => ⟨fun hk => (hlane k).trans (if_pos hk), fun hk => (hlane k).trans (if_neg hk)⟩⟩
    rw [hi, handleStartStrokes_attending hset rfl hmore]
    rfl
  · have howner {l : LaneId} (hl : named l) :=
      handleStartStrokes_cases (s := s) (rq := ⟨o, 255, 0x09, tag, [b0, b1, b2]⟩) hset rfl (namedLanes_ne_nil hl)
        (State.attentionLanes_eq_nil (find?_namedLanes_eq_none hattends hquiet))
    refine ⟨fun l hl => ?_, fun hfree => ?_⟩
    · rw [hi, (howner hl.1.1).1 l (find?_namedLanes_eq_some howned hl)]
      rfl
    have hstrokes {l : LaneId} (hl : named l) := (howner hl).2 (find?_namedLanes_eq_none howned hfree)
    refine ⟨fun l hl => ?_, fun hidle => ?_⟩
    · rw [hi, (hstrokes hl.1.1).1 l (find?_namedLanes_eq_some hbusy hl), State.refuseDevice_eq _ _ _ rfl]
    have hnests {l : LaneId} (hl : named l) := (hstrokes hl).2 (find?_namedLanes_eq_none hbusy hidle)
    refine ⟨fun l hl => ?_, fun hseated hsome => ?_⟩
    · rw [hi, (hnests hl.1.1).1 l (find?_namedLanes_eq_some hvacated hl), State.refuseDevice_eq _ _ _ rfl]
    obtain ⟨l, hl⟩ := hsome
    have hstart := (hnests hl).2 (find?_namedLanes_eq_none hvacated hseated)
    have hlane := s.lane_startLanes o (b0.toNat + 256 * b1.toNat + 65536 * b2.toNat)
    refine ⟨_, ?_, ?_, fun k => ⟨fun hk => (hlane k).trans (if_pos hk), fun hk => (hlane k).trans (if_neg hk)⟩⟩
    · rw [hi, hstart, ← le24_bytes b0 b1 b2]
      rfl
    · rw [State.startLanes_eq, State.foldl_onLane_frame]

end Sys2Proof.Machine
end

section
/-! Recording a condition and clearing a record (R119, R121 to R126): the rule for one condition, what a sequence of them
leaves, and the two requests that report a record and clear it. -/

namespace Sys2Proof.Machine

/-! ### Recording (R119) -/

/-- A record that holds nothing takes the condition, and counts nothing further. -/
theorem Sense.record_of_none {r : Sense} (hr : r.held = none) (c : Cond) (now : Stamp) (epoch : Option (BitVec 16)) :
    r.record c now epoch = { r with held := some ⟨c, now, epoch⟩ } := by
  simp only [Sense.record, hr]

/-- A condition of at least the rank that is held replaces it. -/
theorem Sense.record_of_le {r : Sense} {h : Held} {c : Cond} (hr : r.held = some h) (hk : h.cond.key ≤ c.key) (now : Stamp)
    (epoch : Option (BitVec 16)) :
    r.record c now epoch = { r with held := some ⟨c, now, epoch⟩, further := min 255 (r.further + 1) } := by
  simp only [Sense.record, hr, if_pos hk]

/-- A condition of lower rank is counted alone. -/
theorem Sense.record_of_lt {r : Sense} {h : Held} {c : Cond} (hr : r.held = some h) (hk : c.key < h.cond.key) (now : Stamp)
    (epoch : Option (BitVec 16)) : r.record c now epoch = { r with further := min 255 (r.further + 1) } := by
  simp only [Sense.record, hr, if_neg (Nat.not_le.2 hk)]

/-- The record after conditions that come with their times and epochs, one after the other. -/
def Sense.recordAll (r : Sense) (hs : List Held) : Sense :=
  hs.foldl (fun (r : Sense) (h : Held) => r.record h.cond h.time h.epoch) r

theorem Sense.recordAll_concat (r : Sense) (hs : List Held) (h : Held) :
    r.recordAll (hs ++ [h]) = (r.recordAll hs).record h.cond h.time h.epoch := by
  simp only [Sense.recordAll, List.foldl_append, List.foldl_cons, List.foldl_nil]

/-- The further count counts on up to 255. -/
theorem min_255_succ (n : Nat) : min 255 (min 255 n + 1) = min 255 (n + 1) := by omega

/-- `best` is the last of those of highest rank in `hs`. -/
def LastOfHighest (hs : List Held) (best : Held) : Prop :=
  ∃ before after, hs = before ++ best :: after ∧ (∀ h ∈ before, h.cond.key ≤ best.cond.key) ∧
    ∀ h ∈ after, h.cond.key < best.cond.key

theorem LastOfHighest.le {hs : List Held} {best : Held} (hb : LastOfHighest hs best) :
    ∀ h ∈ hs, h.cond.key ≤ best.cond.key := by
  obtain ⟨before, after, rfl, hbefore, hafter⟩ := hb
  intro h hm
  rcases List.mem_append.1 hm with hm | hm
  · exact hbefore h hm
  · rcases List.mem_cons.1 hm with rfl | hm
    · exact le_rfl
    · exact (hafter h hm).le

/-- One more condition, of at least the highest rank. -/
theorem LastOfHighest.concat_of_le {hs : List Held} {best h : Held} (hb : LastOfHighest hs best)
    (hk : best.cond.key ≤ h.cond.key) : LastOfHighest (hs ++ [h]) h :=
  ⟨hs, [], rfl, fun x hx => (hb.le x hx).trans hk, by simp⟩

/-- One more condition, of lower rank. -/
theorem LastOfHighest.concat_of_lt {hs : List Held} {best h : Held} (hb : LastOfHighest hs best)
    (hk : h.cond.key < best.cond.key) : LastOfHighest (hs ++ [h]) best := by
  obtain ⟨before, after, rfl, hbefore, hafter⟩ := hb
  refine ⟨before, after ++ [h], by simp, hbefore, fun x hx => ?_⟩
  rcases List.mem_append.1 hx with hx | hx
  · exact hafter x hx
  · rwa [List.mem_singleton.1 hx]

/-- R119: what the conditions since the last clearing leave, by induction on those after the first, the latest one last. -/
theorem Sense.recordAll_cleared (first : Held) (causes : BitVec 8) (more : List Held) :
    ∃ best, LastOfHighest (first :: more) best ∧
      (⟨none, 0, causes⟩ : Sense).recordAll (first :: more) = ⟨some best, min 255 more.length, causes⟩ := by
  induction more using List.reverseRecOn with
  | nil => exact ⟨first, ⟨[], [], rfl, by simp, by simp⟩, rfl⟩
  | append_singleton more h ih =>
    obtain ⟨best, hbest, hrec⟩ := ih
    rw [← List.cons_append, Sense.recordAll_concat, hrec, List.length_append, List.length_singleton]
    rcases le_or_gt best.cond.key h.cond.key with hk | hk
    · exact ⟨h, hbest.concat_of_le hk, by rw [Sense.record_of_le rfl hk, min_255_succ]⟩
    · exact ⟨best, hbest.concat_of_lt hk, by rw [Sense.record_of_lt rfl hk, min_255_succ]⟩

/-- Settles O53: the tables of R114 and R115 are those of `Cond.key`, `Cond.code` and `Cond.residual`, row by row. -/
theorem recordingRule : Obligations.RecordingRule := by
  refine ⟨fun n => ?_, fun r c now epoch => ⟨fun hr => Sense.record_of_none hr c now epoch, fun h hr =>
    ⟨fun hk => Sense.record_of_le hr hk now epoch, fun hk => Sense.record_of_lt hr hk now epoch⟩⟩,
    fun s c o l => ⟨rfl, rfl⟩, fun first more causes => ?_⟩
  · simp only [Cond.key, Cond.code, Cond.residual, and_self]
  · obtain ⟨best, ⟨before, after, hsplit, hbefore, hafter⟩, hrec⟩ := Sense.recordAll_cleared first causes more
    exact ⟨before, best, after, hsplit, hbefore, hafter, hrec⟩

/-! ### LANE_SENSE and DEVICE_SENSE (R122 to R124) -/

/-- R122, R123: both requests report key, code, residual, further count and time alike. -/
theorem Sense.body_eq_reported (r : Sense) : r.body = r.reported := by
  cases h : r.held with
  | none => simp only [Sense.body, Sense.reported, h]; rfl
  | some => simp only [Sense.body, Sense.reported, h]

/-- R122: LANE_SENSE reports the recording epoch as well, which reads 0 in a record that holds nothing. -/
theorem laneSenseFields_eq (r : Sense) : laneSenseFields r =
    r.reported ++ le16 (match r.held with | none => 0 | some h => (h.epoch.getD 0).toNat) := by
  cases h : r.held with
  | none => simp only [laneSenseFields, Sense.reported, h]; rfl
  | some => simp only [laneSenseFields, Sense.reported, h]

/-- A flag byte that says whether a cause set is not empty. -/
theorem leFlag_causes (causes : BitVec 8) : leFlag (causes != 0) = [if causes = 0 then 0 else 1] := by
  by_cases h : causes = 0
  · rw [h]; rfl
  · rw [if_neg h, bne_iff_ne.2 h]; rfl

theorem LaneState.benefits_iff (L : LaneState) (o : Originator) :
    L.benefits o = true ↔ L.claim.map Claim.beneficiary = some o := by
  cases h : L.claim <;> simp [LaneState.benefits, h]

/-- R122, R124, R126: what LANE_SENSE makes of its lane. -/
theorem LaneState.senseTaken_eq (L : LaneState) (o : Originator) :
    ((L.onSense o fun r => r.clear.clearCauses).onLink fun n =>
        { n with recovered := if L.benefits o then 0 else n.recovered }) =
      { L with
        sense := L.sense.set o ⟨none, 0, 0⟩
        link := { L.link with recovered := if L.claim.map Claim.beneficiary = some o then 0 else L.link.recovered } } := by
  simp only [LaneState.benefits_iff]
  rfl

/-- Settles O24: either request reaches its block's handling, which reports the record as it stood and then clears it. -/
theorem senseRequestsReportAndClear : Obligations.SenseRequestsReportAndClear := by
  intro s o tag hs
  refine ⟨fun l r hr => ?_, fun r hr => ?_⟩
  · subst hr
    have harrive : exec (.laneSense o (laneByte l) tag []) s = .next (handleLaneSense l ⟨o, laneByte l, 0x14, tag, []⟩ s) := by
      simp only [exec, execLaneSense]
      rw [arrive_of_hears hs _ (Nat.zero_le _) _ ((OneReply.laneRequest oneReply_laneSense _ _ _).rx s),
        laneRequest_observing _ _ _ _ _ _ _ _ rfl]
    rw [harrive]
    simp only [handleLaneSense, laneSenseBody, laneSenseFields_eq, leFlag_causes, LaneState.senseTaken_eq,
      LaneState.attentionOf, List.append_assoc]
    rfl
  · subst hr
    simp only [exec, execDeviceSense]
    rw [arrive_deviceRequest hs oneReply_deviceSense o 0x0A tag [] rfl (Nat.zero_le _), handleDeviceSense,
      Sense.body_eq_reported]
    rfl

end Sys2Proof.Machine
end

section
/-! Every operation keeps the 200 sense records sound (R116, R119 to R126): one law per operation, in the order of the model's
files. A record changes by recording, clearing and its causes alone, and each of these keeps it sound. -/

namespace Sys2Proof.Machine

/-! ### One record -/

/-- R119: a recorded condition counts one further where a condition is held, up to 255. -/
theorem Sense.sound.record {r : Sense} (h : r.sound) {c : Cond} {now : Stamp} {epoch : Option (BitVec 16)} :
    (r.record c now epoch).sound := by
  obtain ⟨-, hheld, hfurther⟩ := r.record_spec c now epoch
  refine ⟨fun hn => absurd hn hheld, ?_⟩
  rw [hfurther]
  split
  · exact h.2
  · exact Nat.min_le_left _ _

/-- R125: the causes are not what soundness speaks of. -/
theorem Sense.sound.addCause {r : Sense} (h : r.sound) {cause : BitVec 8} : (r.addCause cause).sound := h

/-- R121: a cleared record holds nothing and counts nothing. -/
theorem Sense.sound_clear (r : Sense) : r.clear.sound := Sense.sound_unheld r.causes

/-! ### The records of the part -/

/-- A change that leaves every record. -/
theorem State.sensesSound.of_sense_eq {s t : State} (h : s.sensesSound) (hl : ∀ l, (t.lane l).sense = (s.lane l).sense)
    (hd : t.deviceSense = s.deviceSense) : t.sensesSound :=
  ⟨fun l o => by rw [hl]; exact h.1 l o, fun o => by rw [hd]; exact h.2 o⟩

/-- A change of one lane whose records stay sound. -/
theorem State.sensesSound.onLane_sound {s : State} (h : s.sensesSound) {l : LaneId} {f : LaneState → LaneState}
    (hf : ∀ o : Originator, (f (s.lane l)).sense[o].sound) : (s.onLane l f).sensesSound := by
  refine ⟨fun k o => ?_, h.2⟩
  by_cases hk : l = k
  · subst hk; rw [State.lane_onLane_self]; exact hf o
  · rw [State.lane_onLane_ne s f hk]; exact h.1 k o

/-- A change of one lane that leaves its records. -/
theorem State.sensesSound.onLane {s : State} (h : s.sensesSound) {l : LaneId} {f : LaneState → LaneState}
    (hf : ∀ L, (f L).sense = L.sense) : (s.onLane l f).sensesSound :=
  h.onLane_sound fun o => by rw [hf]; exact h.1 l o

/-- A change of one record of a lane that keeps it sound. -/
theorem State.sensesSound.onLane_onSense {s : State} (h : s.sensesSound) {l : LaneId} {o : Originator}
    {f : LaneState → LaneState} {g : LaneState → Sense → Sense} (hf : ∀ L, (f L).sense = (L.onSense o (g L)).sense)
    (hg : ∀ L r, r.sound → (g L r).sound) : (s.onLane l f).sensesSound := by
  refine h.onLane_sound fun p => ?_
  rw [hf]
  by_cases hp : o = p
  · subst hp; simpa using hg _ _ (h.1 l o)
  · simpa [hp] using h.1 l p
theorem State.sensesSound.onSense {s : State} (h : s.sensesSound) {l : LaneId} {o : Originator} {g : LaneState → Sense → Sense}
    (hg : ∀ L r, r.sound → (g L r).sound) : (s.onLane l fun L => L.onSense o (g L)).sensesSound :=
  h.onLane_onSense (fun _ => rfl) hg

/-- A device record that is replaced by a sound one. -/
theorem State.sensesSound.onDeviceSense {s : State} (h : s.sensesSound) {o : Originator} {r : Sense} (hr : r.sound) :
    ({ s with deviceSense := s.deviceSense.set o r } : State).sensesSound := by
  refine ⟨h.1, fun p => ?_⟩
  by_cases hp : o = p
  · subst hp; simpa using hr
  · have hv : o.val ≠ p.val := fun e => hp (Fin.ext e)
    simpa [hv] using h.2 p

/-! The parts of a lane that are not its records. -/

theorem State.sensesSound.onLink {s : State} (h : s.sensesSound) {l : LaneId} {f : LaneState → Link → Link} :
    (s.onLane l fun L => L.onLink (f L)).sensesSound := h.onLane fun _ => rfl
theorem State.sensesSound.onUpstream {s : State} (h : s.sensesSound) {l : LaneId} {f : LaneState → Upstream → Upstream} :
    (s.onLane l fun L => L.onUpstream (f L)).sensesSound := h.onLane fun _ => rfl
theorem State.sensesSound.onSupply {s : State} (h : s.sensesSound) {l : LaneId} {f : LaneState → Supply → Supply} :
    (s.onLane l fun L => L.onSupply (f L)).sensesSound := h.onLane fun _ => rfl
theorem State.sensesSound.onStrokes {s : State} (h : s.sensesSound) {l : LaneId} {f : LaneState → Strokes → Strokes} :
    (s.onLane l fun L => L.onStrokes (f L)).sensesSound := h.onLane fun _ => rfl

/-- A sequence of changes, each of which keeps the records sound. -/
theorem State.sensesSound.foldl {α : Type} {f : State → α → State} {as : List α} {s : State} (h : s.sensesSound)
    (hf : ∀ t a, t.sensesSound → (f t a).sensesSound) : (as.foldl f s).sensesSound := by
  induction as generalizing s with
  | nil => exact h
  | cons a as ih => exact ih (hf s a h)

/-! ### Ops.lean: time, events, sense records, replies, the end of a send -/

theorem State.sensesSound.advance {s : State} (h : s.sensesSound) {d : Nat} : (s.advance d).sensesSound :=
  h.of_sense_eq (fun l => by rw [State.lane_advance]; rfl) rfl

theorem State.sensesSound.onOriginator {s : State} (h : s.sensesSound) {o : Originator}
    {f : OriginatorState → OriginatorState} :
    (s.onOriginator o f).sensesSound := h
theorem State.sensesSound.offerLane {s : State} (h : s.sensesSound) {k : EventKind} {l : LaneId} :
    (s.offerLane k l).sensesSound := h

theorem State.sensesSound.recordLane {s : State} (h : s.sensesSound) {c : Cond} {o : Originator} {l : LaneId} :
    (s.recordLane c o l).sensesSound := h.onSense fun _ _ hr => hr.record
theorem State.sensesSound.recordDevice {s : State} (h : s.sensesSound) {c : Cond} {o : Originator} :
    (s.recordDevice c o).sensesSound := h.onDeviceSense (h.2 o).record
theorem State.sensesSound.recordAsync {s : State} (h : s.sensesSound) {c : Cond} {l : LaneId} :
    (s.recordAsync c l).sensesSound := by
  unfold State.recordAsync
  split
  · exact h
  · exact h.recordLane
theorem State.sensesSound.setAttention {s : State} (h : s.sensesSound) {cause : BitVec 8} {l : LaneId} :
    (s.setAttention cause l).sensesSound := h.onLane_sound fun o => by simpa using (h.1 l o).addCause
theorem State.sensesSound.clearCondition {s : State} (h : s.sensesSound) {o : Originator} {l : LaneId} :
    (s.clearCondition o l).sensesSound := h.onSense fun _ r _ => r.sound_clear
theorem State.sensesSound.clearAttention {s : State} (h : s.sensesSound) {o : Originator} {l : LaneId} :
    (s.clearAttention o l).sensesSound := h.onSense fun _ _ hr => hr

theorem State.sensesSound.pushReply {s : State} (h : s.sensesSound) {r : Reply} : (s.pushReply r).sensesSound := h
theorem State.sensesSound.answer {s : State} (h : s.sensesSound) {rq : Request} {st : Status} {body : List Byte} :
    (s.answer rq st body).sensesSound := h
theorem State.sensesSound.takeDown {s : State} (h : s.sensesSound) {n : Nat} : (s.takeDown n).sensesSound := h
theorem State.sensesSound.releaseDown {s : State} (h : s.sensesSound) {n : Nat} : (s.releaseDown n).sensesSound := h

theorem State.sensesSound.endSendCheck {s : State} (h : s.sensesSound) {c : Cond} {l : LaneId} {r : SendRecord} :
    (s.endSendCheck c l r).sensesSound := h.releaseDown.recordLane.pushReply
theorem State.sensesSound.endSendGood {s : State} (h : s.sensesSound) {n : Nat} {l : LaneId} {r : SendRecord} :
    (s.endSendGood n l r).sensesSound := h.releaseDown.clearCondition.pushReply
theorem State.sensesSound.cancelSends {s : State} (h : s.sensesSound) {c : Cond} {l : LaneId} {rs : List SendRecord} :
    (s.cancelSends c l rs).sensesSound := h.foldl fun _ _ ht => ht.endSendCheck
theorem State.sensesSound.cancelChain {l : LaneId} {rs : List SendRecord} :
    ∀ {k : Nat} {s : State}, s.sensesSound → (s.cancelChain l k rs).sensesSound := by
  induction rs with
  | nil => exact id
  | cons r rs ih => exact fun h => ih h.endSendCheck

/-! ### LaneBus.lean, Flags.lean, Windows.lean -/

theorem State.sensesSound.tookOut {s : State} (h : s.sensesSound) {l : LaneId} : (s.tookOut l).sensesSound := h.onLink
theorem State.sensesSound.tookIn {s : State} (h : s.sensesSound) {l : LaneId} : (s.tookIn l).sensesSound := h.onLink

theorem State.sensesSound.squeezeAfterAdmission {s : State} (h : s.sensesSound) : s.squeezeAfterAdmission.sensesSound := by
  unfold State.squeezeAfterAdmission
  split_ifs <;> exact h
theorem State.sensesSound.squeezeAfterRelease {s : State} (h : s.sensesSound) : s.squeezeAfterRelease.sensesSound := by
  unfold State.squeezeAfterRelease
  split_ifs <;> exact h
theorem State.sensesSound.squeezeAfterOptions {s : State} (h : s.sensesSound) : s.squeezeAfterOptions.sensesSound :=
  h.squeezeAfterAdmission.squeezeAfterRelease
theorem State.sensesSound.releaseUp {s : State} (h : s.sensesSound) {n : Nat} {l : LaneId} : (s.releaseUp n l).sensesSound :=
  State.sensesSound.squeezeAfterRelease (h.onLane fun _ => rfl)
theorem State.sensesSound.discardUpstream {s : State} (h : s.sensesSound) {l : LaneId} : (s.discardUpstream l).sensesSound :=
  h.onUpstream.releaseUp

theorem LaneState.sense_evalEligible (L : LaneState) : L.evalEligible.sense = L.sense := by
  unfold LaneState.evalEligible
  split_ifs <;> rfl
theorem LaneState.sense_recordsJoined (before : List PacketRecord) (L : LaneState) :
    (L.recordsJoined before).sense = L.sense := by
  unfold LaneState.recordsJoined
  rw [LaneState.sense_evalEligible]
  split_ifs <;> rfl

theorem State.sensesSound.endWindow {s : State} (h : s.sensesSound) {done : Bool} {p : WindowParams} {f : Figures}
    {l : LaneId} :
    (s.endWindow done p f l).sensesSound := h.onSupply.offerLane
theorem State.sensesSound.abortOnTrip {s : State} (h : s.sensesSound) {l : LaneId} : (s.abortOnTrip l).sensesSound := by
  unfold State.abortOnTrip
  split
  · exact h.endWindow
  · exact h.endWindow
  · exact h
theorem State.sensesSound.abortOnEmptied {s : State} (h : s.sensesSound) {l : LaneId} : (s.abortOnEmptied l).sensesSound := by
  unfold State.abortOnEmptied
  split
  · exact h.endWindow
  · exact h.endWindow
  · exact h.endWindow
  · exact h
theorem State.sensesSound.windowSample {s : State} (h : s.sensesSound) {v : Nat} {l : LaneId} :
    (s.windowSample v l).sensesSound := by
  unfold State.windowSample
  split
  · exact h.onSupply
  · split
    · exact h.endWindow
    · exact h.onSupply
  · exact h
theorem State.sensesSound.trip {s : State} (h : s.sensesSound) {v : Nat} {l : LaneId} : (s.trip v l).sensesSound :=
  h.onSupply.abortOnTrip.recordAsync.offerLane
theorem State.sensesSound.tripSample {s : State} (h : s.sensesSound) {v : Nat}
    {l : LaneId} : (s.tripSample v l).sensesSound := by
  unfold State.tripSample
  dsimp only
  split
  · exact h.onSupply.trip
  · exact h.onSupply

/-! ### LinkOps.lean -/

theorem State.sensesSound.setLinkState {s : State} (h : s.sensesSound) {k : LinkState} {l : LaneId} :
    (s.setLinkState k l).sensesSound := h.onLink
theorem State.sensesSound.enterAttaching {s : State} (h : s.sensesSound)
    {l : LaneId} : (s.enterAttaching l).sensesSound := h.onLink
theorem State.sensesSound.enterWaiting {s : State} (h : s.sensesSound) {l : LaneId} : (s.enterWaiting l).sensesSound := by
  unfold State.enterWaiting
  split
  · exact h.enterAttaching
  · exact h.setLinkState
theorem State.sensesSound.leaveUp {s : State} (h : s.sensesSound) {l : LaneId} : (s.leaveUp l).sensesSound := by
  unfold State.leaveUp
  refine State.sensesSound.offerLane (State.sensesSound.cancelSends ?_)
  exact h.onLane fun _ => rfl
theorem State.sensesSound.linkFault {s : State} (h : s.sensesSound) {e : Nat} {l : LaneId} : (s.linkFault e l).sensesSound :=
  h.recordAsync.leaveUp.enterAttaching
theorem State.sensesSound.attachFails {s : State} (h : s.sensesSound) {n : Nat}
    {l : LaneId} : (s.attachFails n l).sensesSound :=
  h.setLinkState.offerLane.recordAsync
theorem State.sensesSound.attachSucceeds {s : State} (h : s.sensesSound) {id : Identity} {l : LaneId} :
    (s.attachSucceeds id l).sensesSound := h.onLink.setAttention.offerLane.onUpstream.onSupply
theorem State.sensesSound.linkNestSeated {s : State} (h : s.sensesSound) {l : LaneId} : (s.linkNestSeated l).sensesSound := by
  unfold State.linkNestSeated
  split
  · exact h.enterWaiting
  · exact h
theorem State.sensesSound.linkNestEmptied {s : State} (h : s.sensesSound) {l : LaneId} : (s.linkNestEmptied l).sensesSound := by
  unfold State.linkNestEmptied
  refine State.sensesSound.onLink ?_
  split
  · exact h
  · exact h
  · exact h.setLinkState
  · exact h.setLinkState
  · exact h.leaveUp.setLinkState
  · exact h.setLinkState
theorem State.sensesSound.linkConnect {s : State} (h : s.sensesSound) {l : LaneId} : (s.linkConnect l).sensesSound := by
  unfold State.linkConnect
  split
  · exact h.enterAttaching
  · exact h
theorem State.sensesSound.linkDisconnect {s : State} (h : s.sensesSound) {l : LaneId} : (s.linkDisconnect l).sensesSound := by
  unfold State.linkDisconnect
  split
  · exact h.enterWaiting
  · exact h.leaveUp.enterWaiting
  · exact h.enterWaiting
  · exact h
theorem State.sensesSound.linkReattach {s : State} (h : s.sensesSound) {l : LaneId} : (s.linkReattach l).sensesSound := by
  unfold State.linkReattach
  split
  · exact h
  · exact h
  · exact h.enterWaiting
  · exact h.enterWaiting
  · exact h.leaveUp.enterWaiting
  · exact h.enterWaiting
theorem State.sensesSound.linkOff {s : State} (h : s.sensesSound) {l : LaneId} : (s.linkOff l).sensesSound := by
  unfold State.linkOff
  split
  · exact h.leaveUp.setLinkState
  · exact h.setLinkState
theorem State.sensesSound.linkOn {s : State} (h : s.sensesSound) {l : LaneId} : (s.linkOn l).sensesSound := by
  unfold State.linkOn
  split
  · split
    · exact h.enterWaiting
    · exact h.setLinkState
  · exact h
theorem State.sensesSound.linkLaneReset {s : State} (h : s.sensesSound) {l : LaneId} : (s.linkLaneReset l).sensesSound :=
  h.linkReattach.onLink
theorem State.sensesSound.transportError {s : State} (h : s.sensesSound) {e : Nat} {l : LaneId} {go : State → State}
    (hgo : ∀ t, t.sensesSound → (go t).sensesSound) : (s.transportError e l go).sensesSound := by
  unfold State.transportError
  dsimp only
  split
  · exact h.onLink.linkFault
  · exact hgo _ h.onLink
theorem State.sensesSound.zeroErrors {s : State} (h : s.sensesSound) {l : LaneId} : (s.zeroErrors l).sensesSound := h.onLink

/-! ### Collector.lean, Arbiter.lean, Resets.lean -/

theorem State.sensesSound.overrun {s : State} (h : s.sensesSound) {seq : BitVec 16} {l : LaneId} :
    (s.overrun seq l).sensesSound := h.onUpstream.recordAsync.offerLane
theorem State.sensesSound.sequenceStep {s : State} (h : s.sensesSound) {data : List Byte} {damaged urgent : Bool} {l : LaneId} :
    (s.sequenceStep data damaged urgent l).sensesSound := by
  unfold State.sequenceStep
  dsimp only
  split
  · refine State.sensesSound.squeezeAfterAdmission (h.onUpstream.onLane fun L => ?_)
    rw [LaneState.takeIn, LaneState.holdAfterAdmission, LaneState.sense_recordsJoined]
    rfl
  · exact h.onUpstream.overrun
theorem State.sensesSound.classStep {s : State} (h : s.sensesSound) {data : List Byte} {damaged : Bool} {l : LaneId} :
    (s.classStep data damaged l).sensesSound := by
  unfold State.classStep
  split
  · exact h.sequenceStep
  · exact h.sequenceStep
  · exact h
  · exact h.onUpstream
theorem State.sensesSound.arrival {s : State} (h : s.sensesSound) {kept : List Byte} {count : Nat} {l : LaneId} :
    (s.arrival kept count l).sensesSound := by
  unfold State.arrival
  split_ifs
  · exact h.classStep
  · exact h.classStep
  · exact h.onUpstream

theorem State.sensesSound.chooseLane {s t : State} {l : LaneId} (h : s.sensesSound) (ht : s.chooseLane = some (l, t)) :
    t.sensesSound := by
  unfold State.chooseLane at ht
  dsimp only at ht
  split at ht
  · cases ht; exact h
  · split_ifs at ht <;> (cases ht; exact h)
  · cases ht; exact h
  · cases ht
theorem State.sensesSound.buildDataUp {s t : State} {l : LaneId} {f : Frame} (h : s.sensesSound)
    (ht : s.buildDataUp l = some (f, t)) : t.sensesSound := by
  unfold State.buildDataUp at ht
  split at ht
  · cases ht
  · cases ht; exact h.onUpstream
theorem State.sensesSound.buildFrame {s t : State} {f : Frame} (h : s.sensesSound) (ht : s.buildFrame = some (f, t)) :
    t.sensesSound := by
  unfold State.buildFrame at ht
  split at ht
  · cases ht; exact h
  · split at ht
    · cases ht; exact h
    · split at ht
      · next hc => exact (h.chooseLane hc).buildDataUp ht
      · cases ht
theorem State.sensesSound.placeFrame {s : State} (h : s.sensesSound) {f : Frame} : (s.placeFrame f).sensesSound := by
  unfold State.placeFrame
  split <;> exact h

/-- R23, R125: a station link reset adds a cause to every lane record. -/
theorem State.sensesSound.stationLinkReset {s : State} (h : s.sensesSound) : s.stationLinkReset.sensesSound := by
  refine ⟨fun l o => ?_, fun o => ?_⟩
  · rw [State.lane_stationLinkReset]
    simpa using (h.1 l o).addCause
  · simpa [State.stationLinkReset] using h.2 o

/-- R24, R128: after a device reset no record holds a condition. -/
theorem State.sensesSound_deviceReset (s : State) (running : Bool) : (s.deviceReset running).sensesSound := by
  refine ⟨fun l o => ?_, fun o => ?_⟩
  · rw [State.lane_deviceReset]
    simpa [LaneState.afterReset, Sense.afterReset] using Sense.sound_unheld 1
  · simpa [State.deviceReset, State.reset, Sense.empty] using Sense.sound_unheld 0

theorem State.sensesSound.leaveConfigured {s : State} (h : s.sensesSound) {p : PortState} :
    (s.leaveConfigured p).sensesSound := by
  unfold State.leaveConfigured
  dsimp only
  split
  · exact State.sensesSound_deviceReset _ true
  · exact State.sensesSound.stationLinkReset h
theorem State.sensesSound.transferred {s : State} (h : s.sensesSound) {f : Frame} : (s.transferred f).sensesSound := by
  unfold State.transferred
  split
  · split
    · exact State.sensesSound_deviceReset _ true
    · exact h
  · exact h
  · exact h.releaseUp

end Sys2Proof.Machine
end

section
/-! Every operation of a block's own events keeps the sense records sound (R29 to R33, R38 to R43, R150 to R159), and so does
the handling of every request. -/

namespace Sys2Proof.Machine

/-! ### AttachEvents.lean -/

theorem State.sensesSound.setPhase {s : State} (h : s.sensesSound) {p : AttachPhase} {l : LaneId} :
    (s.setPhase p l).sensesSound := h.onLink
theorem State.sensesSound.judgeIdentity {s : State} (h : s.sensesSound) {bytes : List Byte} {count : Nat} {l : LaneId} :
    (s.judgeIdentity bytes count l).sensesSound := by
  unfold State.judgeIdentity
  split
  · split
    · exact h.attachSucceeds
    · exact h.attachFails
  · exact h.setPhase
theorem State.sensesSound.identityRequest {s : State} (h : s.sensesSound) {r : OutResult} {l : LaneId} :
    (s.identityRequest r l).sensesSound := by
  cases r with
  | accepted => exact h.tookOut.setPhase
  | nak => exact h
  | transportError => exact h.setPhase
  | stall => exact h.attachFails
theorem State.sensesSound.identityRead {s : State} (h : s.sensesSound) {r : InResult} {p : Poll} {l : LaneId} :
    (s.identityRead r p l).sensesSound := by
  cases r with
  | data toggle bytes =>
    unfold State.identityRead
    dsimp only
    split
    · exact h.setPhase
    · exact h
    · exact h.tookIn.setPhase
    · exact h.tookIn.judgeIdentity
  | nak =>
    unfold State.identityRead
    dsimp only
    split
    · exact h.setPhase
    · exact h
  | transportError => exact h.setPhase
  | stall => exact h.attachFails

/-! ### StrokeOps.lean, FixtureEvents.lean -/

theorem State.sensesSound.startStep {s : State} (h : s.sensesSound) {l : LaneId} : (s.startStep l).sensesSound := by
  unfold State.startStep
  split
  · exact h
  · extract_lets k t
    have ht : t.sensesSound := h.onLane fun _ => rfl
    split
    · exact ht.offerLane
    · exact ht
theorem State.sensesSound.endRun {s : State} (h : s.sensesSound)
    {l : LaneId} : (s.endRun l).sensesSound := h.onStrokes.offerLane
theorem State.sensesSound.afterStep {s : State} (h : s.sensesSound) {e : Step}
    {l : LaneId} : (s.afterStep e l).sensesSound := by
  unfold State.afterStep
  split
  · exact h.endRun
  · split
    · exact h.onStrokes
    · exact h.startStep

theorem State.sensesSound.sample {s : State} (h : s.sensesSound) {v : Nat} {l : LaneId} : (s.sample v l).sensesSound :=
  h.onSupply.windowSample.tripSample
theorem State.sensesSound.answerStop {s : State} (h : s.sensesSound) {l : LaneId} {w : StopWait} :
    (s.answerStop l w).sensesSound := h.clearCondition.pushReply
theorem State.sensesSound.nestSeated {s : State} (h : s.sensesSound) {l : LaneId} : (s.nestSeated l).sensesSound :=
  h.linkNestSeated.setAttention.offerLane
theorem State.sensesSound.strokesNestEmptied {s : State} (h : s.sensesSound) {l : LaneId} :
    (s.strokesNestEmptied l).sensesSound := by
  unfold State.strokesNestEmptied
  split
  · exact h
  · exact h.onStrokes.recordAsync
theorem State.sensesSound.keepNestEmptied {s : State} (h : s.sensesSound) {l : LaneId} : (s.keepNestEmptied l).sensesSound := by
  unfold State.keepNestEmptied
  split
  · exact h.recordAsync.onLane fun _ => rfl
  · exact h
theorem State.sensesSound.nestEmptied {s : State} (h : s.sensesSound) {l : LaneId} : (s.nestEmptied l).sensesSound :=
  h.linkNestEmptied.onSupply.abortOnEmptied.strokesNestEmptied.keepNestEmptied.setAttention.offerLane

/-! ### SendRequests.lean, OutEngine.lean, InEngine.lean -/

theorem State.sensesSound.setHalted {s : State} (h : s.sensesSound) {b : Bool} {l : LaneId} : (s.setHalted b l).sensesSound :=
  h.onLane fun _ => rfl
theorem State.sensesSound.flushDown {s : State} (h : s.sensesSound) {l : LaneId} : (s.flushDown l).sensesSound := by
  unfold State.flushDown
  refine State.sensesSound.cancelSends ?_
  exact h.onLane fun _ => rfl
theorem State.sensesSound.resetSends {s : State} (h : s.sensesSound) {l : LaneId} : (s.resetSends l).sensesSound := by
  unfold State.resetSends
  refine State.sensesSound.cancelSends ?_
  exact h.onLane fun _ => rfl
theorem State.sensesSound.resetFixture {s : State} (h : s.sensesSound) {l : LaneId} : (s.resetFixture l).sensesSound :=
  h.discardUpstream.onLane fun _ => rfl

theorem State.sensesSound.setOut {s : State} (h : s.sensesSound) {e : OutEngine} {l : LaneId} : (s.setOut e l).sensesSound :=
  h.onLink
theorem State.sensesSound.retryWait {s : State} (h : s.sensesSound) {f : Flight} {l : LaneId} : (s.retryWait f l).sensesSound :=
  h.setOut
theorem State.sensesSound.needClearing {s : State} (h : s.sensesSound) {e : Endpoint} {l : LaneId} :
    (s.needClearing e l).sensesSound := h.onLink
theorem State.sensesSound.sendSucceeds {s : State} (h : s.sensesSound) {f : Flight} {l : LaneId} :
    (s.sendSucceeds f l).sensesSound := by
  unfold State.sendSucceeds
  extract_lets retries t
  have ht : t.sensesSound := h.onLane fun _ => rfl
  split
  · exact ht.endSendCheck
  · exact ht.endSendGood
theorem State.sensesSound.sendRefused {s : State} (h : s.sensesSound) {cond : Nat → Cond} {f : Flight} {l : LaneId} :
    (s.sendRefused cond f l).sensesSound := by
  unfold State.sendRefused
  extract_lets chain t
  have ht : t.sensesSound := by
    refine State.sensesSound.offerLane ?_
    exact h.onLane fun _ => rfl
  exact ht.endSendCheck.cancelChain

theorem State.sensesSound.setIn {s : State} (h : s.sensesSound) {e : InEngine}
    {l : LaneId} : (s.setIn e l).sensesSound := h.onLink
theorem State.sensesSound.recheckPoll {s : State} (h : s.sensesSound) {p : Option Poll} {l : LaneId} :
    (s.recheckPoll p l).sensesSound := h.setIn
theorem State.sensesSound.packetEnds {s : State} (h : s.sensesSound) {bytes : List Byte} {count : Nat} {l : LaneId} :
    (s.packetEnds bytes count l).sensesSound := by
  unfold State.packetEnds
  refine State.sensesSound.recheckPoll (State.sensesSound.arrival ?_)
  exact h.setIn.onLane fun _ => rfl
theorem State.sensesSound.pollError {s : State} (h : s.sensesSound) {p : Poll} {l : LaneId} : (s.pollError p l).sensesSound :=
  h.transportError fun _ ht => ht.setIn
theorem State.sensesSound.pollGoesOn {s : State} (h : s.sensesSound) {p : Poll} {l : LaneId} : (s.pollGoesOn p l).sensesSound :=
  h.setIn

/-! ### The request checks and the replies -/

theorem State.sensesSound.setRx {s : State} (h : s.sensesSound) {x : Rx} : (s.setRx x).sensesSound := h
theorem State.sensesSound.pump {s : State} (h : s.sensesSound) : s.pump.sensesSound := h

theorem State.sensesSound.refuseForm {s : State} (h : s.sensesSound) {c : Cond} {rq : Request} :
    (s.refuseForm c rq).sensesSound := by
  unfold State.refuseForm
  refine State.sensesSound.answer ?_
  split
  · exact h.recordLane
  · exact h.recordDevice
theorem State.sensesSound.refuseLane {s : State} (h : s.sensesSound) {c : Cond} {l : LaneId} {rq : Request} :
    (s.refuseLane c l rq).sensesSound := h.recordLane.answer
theorem State.sensesSound.refuseDevice {s : State} (h : s.sensesSound) {c : Cond} {rq : Request} :
    (s.refuseDevice c rq).sensesSound := h.recordDevice.answer
theorem State.sensesSound.goodLane {s : State} (h : s.sensesSound) {body : List Byte} {l : LaneId} {rq : Request} :
    (s.goodLane body l rq).sensesSound := h.clearCondition.answer
theorem State.sensesSound.refuseAttention {s : State} (h : s.sensesSound) {l : LaneId} {rq : Request} :
    (s.refuseAttention l rq).sensesSound := h.clearAttention.answer

/-- A request changes the records by its handling alone. -/
theorem State.sensesSound.arrive {s : State} (h : s.sensesSound) {rq : Request} {handle : Request → State → State}
    (hh : ∀ t : State, t.sensesSound → (handle rq t).sensesSound) : (Machine.arrive rq handle s).sensesSound := by
  unfold Machine.arrive State.takeRequest
  split
  · exact h
  · next t ht =>
    refine State.sensesSound.pump (hh t ?_)
    split_ifs at ht <;> (cases ht; exact h)

/-- The request checks, and then the owning block's handling. -/
theorem State.sensesSound.laneRequest {s : State} (h : s.sensesSound) {access : Access} {ok : Nat → Bool} {rq : Request}
    {handle : LaneId → Request → State → State} (hh : ∀ (l : LaneId) (t : State), t.sensesSound → (handle l rq t).sensesSound) :
    (Machine.arrive rq (Machine.laneRequest access ok handle) s).sensesSound := by
  refine h.arrive fun t ht => ?_
  unfold Machine.laneRequest
  dsimp only
  split_ifs
  · exact ht.refuseForm
  · exact ht.refuseAttention
  · exact ht.answer
  · exact hh _ t ht
  · exact ht.refuseForm
theorem State.sensesSound.deviceRequest {s : State} (h : s.sensesSound) {ok : Nat → Bool} {rq : Request}
    {handle : Request → State → State} (hh : ∀ t : State, t.sensesSound → (handle rq t).sensesSound) :
    (Machine.arrive rq (Machine.deviceRequest ok handle) s).sensesSound := by
  refine h.arrive fun t ht => ?_
  unfold Machine.deviceRequest
  split_ifs
  · exact ht.refuseForm
  · exact ht.refuseForm
  · exact hh t ht

/-! ### Device scope -/

theorem State.sensesSound.configurePool {s : State} (h : s.sensesSound) {rq : Request} :
    (handleConfigurePool rq s).sensesSound := by
  have hsplit (d g : Nat) : (s.applySplit d g).sensesSound := by
    unfold State.applySplit
    extract_lets t
    have ht : t.sensesSound := h.of_sense_eq (fun l => by simp only [t, State.lane_onLanes]; rfl) rfl
    split
    · exact ht
    · exact ht
  unfold handleConfigurePool
  dsimp only
  split_ifs
  · exact h.refuseDevice
  · exact h.refuseDevice
  · exact (hsplit _ _).answer
theorem State.sensesSound.setClassActions {s : State} (h : s.sensesSound) {rq : Request} :
    (handleSetClassActions rq s).sensesSound := by
  unfold handleSetClassActions
  dsimp only
  split
  · exact h.refuseDevice
  · exact h
theorem State.sensesSound.openNotices {s : State} (h : s.sensesSound) {rq : Request} :
    (handleOpenNotices rq s).sensesSound := by
  unfold handleOpenNotices
  split
  · exact h.refuseDevice
  · exact h.onOriginator.answer
theorem State.sensesSound.closeNotices {s : State} (h : s.sensesSound) {rq : Request} :
    (handleCloseNotices rq s).sensesSound := by
  unfold handleCloseNotices
  split
  · exact h.refuseDevice
  · exact h.onOriginator.answer
theorem State.sensesSound.startStrokes {s : State} (h : s.sensesSound) {rq : Request} :
    (handleStartStrokes rq s).sensesSound := by
  unfold handleStartStrokes
  dsimp only
  split
  · exact h.refuseDevice
  · split
    · exact (h.foldl fun _ _ ht => ht.clearAttention).answer
    · split
      · exact h.answer
      · split
        · exact h.refuseDevice
        · split
          · exact h.refuseDevice
          · exact State.sensesSound.answer (h.foldl fun _ _ ht => ht.onStrokes.clearCondition)
/-- R123: DEVICE_SENSE clears the requester's record. -/
theorem State.sensesSound.deviceSense {s : State} (h : s.sensesSound) {rq : Request} :
    (handleDeviceSense rq s).sensesSound := by
  unfold handleDeviceSense
  refine State.sensesSound.answer ?_
  exact h.onDeviceSense (Sense.sound_clear _)

/-! ### Lane scope -/

theorem State.sensesSound.setClaim {s : State} (h : s.sensesSound) {c : Option Claim}
    {l : LaneId} : (s.setClaim c l).sensesSound :=
  h.onLane fun _ => rfl
theorem State.sensesSound.claimLane {s : State} (h : s.sensesSound) {l : LaneId} {rq : Request} :
    (handleClaimLane l rq s).sensesSound := by
  unfold handleClaimLane
  split
  · exact h.refuseLane
  · split
    · exact h.setClaim.goodLane
    · dsimp only
      split
      · exact h.setClaim.goodLane
      · exact h.answer
theorem State.sensesSound.yieldLane {s : State} (h : s.sensesSound) {l : LaneId} {rq : Request} :
    (handleYieldLane l rq s).sensesSound := by
  unfold handleYieldLane
  split_ifs
  · exact h.refuseLane
  · exact h.setClaim.goodLane
  · exact h.goodLane
theorem State.sensesSound.breakClaim {s : State} (h : s.sensesSound) {l : LaneId} {rq : Request} :
    (handleBreakClaim l rq s).sensesSound := by
  unfold handleBreakClaim
  split
  · exact h.goodLane
  · exact h.setAttention.offerLane.setClaim.goodLane
/-- R122: LANE_SENSE clears the requester's record. -/
theorem State.sensesSound.laneSense {s : State} (h : s.sensesSound) {l : LaneId} {rq : Request} :
    (handleLaneSense l rq s).sensesSound := by
  unfold handleLaneSense
  refine State.sensesSound.answer ?_
  exact h.onLane_onSense (o := rq.originator) (g := fun _ r => r.clear.clearCauses) (fun _ => rfl) fun _ r _ => r.sound_clear
theorem LaneState.sense_applyOptions (body : List Byte) (L : LaneState) : (L.applyOptions body).sense = L.sense := by
  unfold LaneState.applyOptions LaneState.holdAfterOptions LaneState.evalPack
  dsimp only
  split
  · rfl
  · rw [LaneState.sense_evalEligible]
theorem State.sensesSound.setLaneOptions {s : State} (h : s.sensesSound) {l : LaneId} {rq : Request} :
    (handleSetLaneOptions l rq s).sensesSound := by
  unfold handleSetLaneOptions
  split
  · exact (h.onLane (LaneState.sense_applyOptions rq.body)).squeezeAfterOptions.goodLane
  · exact h.refuseLane
theorem State.sensesSound.laneReset {s : State} (h : s.sensesSound) {l : LaneId} {rq : Request} :
    (handleLaneReset l rq s).sensesSound := h.resetSends.linkLaneReset.resetFixture.goodLane
theorem State.sensesSound.sendPacket {s : State} (h : s.sensesSound) {l : LaneId} {rq : Request} :
    (handleSendPacket l rq s).sensesSound := by
  unfold handleSendPacket
  dsimp only
  split_ifs
  · exact h.refuseLane
  · exact h.refuseLane
  · exact h.refuseLane
  · exact h.takeDown.onLane fun _ => rfl
theorem State.sensesSound.resumeSend {s : State} (h : s.sensesSound) {l : LaneId} {rq : Request} :
    (handleResumeSend l rq s).sensesSound := h.setHalted.goodLane
theorem State.sensesSound.flushLane {s : State} (h : s.sensesSound) {l : LaneId} {rq : Request} :
    (handleFlushLane l rq s).sensesSound := by
  unfold handleFlushLane
  dsimp only
  split
  · exact h.flushDown.goodLane
  · exact h.discardUpstream.goodLane
  · exact h.flushDown.discardUpstream.goodLane
  · exact h.refuseLane
theorem State.sensesSound.linkReset {s : State} (h : s.sensesSound) {l : LaneId} {rq : Request} :
    (handleLinkReset l rq s).sensesSound := by
  unfold handleLinkReset
  split
  · exact h.refuseLane
  · exact h.refuseLane
  · exact h.linkReattach.goodLane
theorem State.sensesSound.setLink {s : State} (h : s.sensesSound) {l : LaneId} {rq : Request} :
    (handleSetLink l rq s).sensesSound := by
  unfold handleSetLink
  dsimp only
  split_ifs
  · exact h.refuseLane
  · exact h.linkOff.goodLane
  · exact h.linkOn.goodLane
theorem State.sensesSound.supply {s : State} (h : s.sensesSound) {l : LaneId} {rq : Request} :
    (handleSupply l rq s).sensesSound := by
  unfold handleSupply
  dsimp only
  split
  · exact h.refuseLane
  · split
    · exact h.refuseLane
    · split
      · refine State.sensesSound.goodLane ?_
        exact h.onLane fun _ => rfl
      · split
        · exact h.refuseLane
        · exact h.refuseLane
theorem State.sensesSound.setTrip {s : State} (h : s.sensesSound) {l : LaneId} {rq : Request} :
    (handleSetTrip l rq s).sensesSound := h.onSupply.goodLane
theorem State.sensesSound.armWindow {s : State} (h : s.sensesSound) {l : LaneId} {rq : Request} :
    (handleArmWindow l rq s).sensesSound := by
  unfold handleArmWindow
  split
  · exact h.refuseLane
  · split_ifs
    · exact h.onSupply.goodLane
    · exact h.onSupply.goodLane
    · exact h.refuseLane
theorem State.sensesSound.cancelWindow {s : State} (h : s.sensesSound) {l : LaneId} {rq : Request} :
    (handleCancelWindow l rq s).sensesSound := h.onSupply.goodLane
theorem State.sensesSound.queueStrokes {s : State} (h : s.sensesSound) {l : LaneId} {rq : Request} :
    (handleQueueStrokes l rq s).sensesSound := by
  unfold handleQueueStrokes
  dsimp only
  split
  · exact h.refuseLane
  · split
    · exact h.refuseLane
    · exact h.onStrokes.goodLane
theorem State.sensesSound.stopStrokes {s : State} (h : s.sensesSound) {l : LaneId} {rq : Request} :
    (handleStopStrokes l rq s).sensesSound := by
  unfold handleStopStrokes
  dsimp only
  split
  · exact h.onStrokes.goodLane
  · exact h.onStrokes.onStrokes
theorem State.sensesSound.setStrokeTiming {s : State} (h : s.sensesSound) {l : LaneId} {rq : Request} :
    (handleSetStrokeTiming l rq s).sensesSound := h.onStrokes.goodLane
theorem State.sensesSound.setLamp {s : State} (h : s.sensesSound) {l : LaneId} {rq : Request} :
    (handleSetLamp l rq s).sensesSound := by
  unfold handleSetLamp
  split
  · exact h.refuseLane
  · refine State.sensesSound.goodLane ?_
    exact h.onLane fun _ => rfl
theorem State.sensesSound.keepPhone {s : State} (h : s.sensesSound) {l : LaneId} {rq : Request} :
    (handleKeepPhone l rq s).sensesSound := by
  unfold handleKeepPhone
  dsimp only
  split_ifs
  · exact h.refuseLane
  · exact h.refuseLane
  · refine State.sensesSound.goodLane ?_
    exact h.onLane fun _ => rfl

end Sys2Proof.Machine
end

section
/-! Every command keeps the sense records sound, and so does every step (R116, R119 to R122). -/

namespace Sys2Proof.Machine

/-- A command that keeps the sense records sound. -/
def KeepsSenses (f : State → Answer) : Prop := ∀ s : State, s.sensesSound → ∃ t, f s = .next t ∧ t.sensesSound

/-! ### Lines and attaches (R25 to R33) -/

theorem keepsSenses_connectDetection (l : LaneId) : KeepsSenses (execConnectDetection l) := fun s h => ⟨_, rfl, by
  split
  · exact h
  · exact h.advance.onLink.linkConnect⟩
theorem keepsSenses_disconnectDetection (l : LaneId) : KeepsSenses (execDisconnectDetection l) := fun s h => ⟨_, rfl, by
  split
  · exact h.onLink.linkDisconnect
  · exact h⟩
theorem keepsSenses_portResetEnd (l : LaneId) (b : Bool) : KeepsSenses (execPortResetEnd l b) := fun s h => ⟨_, rfl, by
  split
  · exact h.advance.onLink.setPhase
  · exact h⟩
theorem keepsSenses_enumerationTransferDone (l : LaneId) (r : EnumResult) : KeepsSenses (execEnumerationTransferDone l r) :=
  fun s h => ⟨_, rfl, by
  split
  · dsimp only
    split
    · exact h
    · exact h.setPhase
    · exact h.onLink.setPhase
    · exact h.onLink.setPhase
    · exact h.onLink.attachFails
    · exact h
  · exact h⟩
theorem keepsSenses_attachRetryExpiry (l : LaneId) : KeepsSenses (execAttachRetryExpiry l) := fun s h => ⟨_, rfl, by
  split
  · exact h.advance.setPhase
  · exact h.advance.setPhase
  · exact h⟩
theorem keepsSenses_identityTransactionDone (l : LaneId) (r : IdentityResult) : KeepsSenses (execIdentityTransactionDone l r) :=
  fun s h => ⟨_, rfl, by
  split
  · split
    · exact h.identityRequest
    · exact h.identityRead
    · exact h
    · exact h
  · exact h⟩
theorem keepsSenses_identityReadTimeout (l : LaneId) : KeepsSenses (execIdentityReadTimeout l) := fun s h => ⟨_, rfl, by
  split
  · exact h.advance.setPhase
  · exact h⟩
theorem keepsSenses_attachTimerExpiry (l : LaneId) : KeepsSenses (execAttachTimerExpiry l) := fun s h => ⟨_, rfl, by
  split
  · exact h.advance.attachFails
  · exact h⟩

/-! ### The engines (R36 to R43) -/

theorem keepsSenses_sendStart (l : LaneId) : KeepsSenses (execSendStart l) := fun s h => ⟨_, rfl, by
  split
  · exact h
  · split
    · refine State.sensesSound.setOut ?_
      exact h.onLane fun _ => rfl
    · exact h⟩
theorem keepsSenses_outTransactionDone (l : LaneId) (r : OutResult) : KeepsSenses (execOutTransactionDone l r) :=
  fun s h => ⟨_, rfl, by
  split
  · cases r with
    | accepted =>
      dsimp only
      split
      · exact h.zeroErrors.tookOut.sendSucceeds
      · exact h.zeroErrors.tookOut.setOut
    | nak => exact h.zeroErrors.setOut
    | stall => exact h.zeroErrors.sendRefused.needClearing
    | transportError =>
      refine h.transportError fun t ht => ?_
      split
      · exact ht.linkFault
      · exact ht.retryWait
  · exact h
  · exact h⟩
theorem keepsSenses_sendTimerExpiry (l : LaneId) : KeepsSenses (execSendTimerExpiry l) := fun s h => ⟨_, rfl, by
  split
  · split
    · exact h.advance.sendRefused
    · exact h.advance.retryWait
  · exact h
  · exact h⟩
theorem keepsSenses_retryWaitEnd (l : LaneId) : KeepsSenses (execRetryWaitEnd l) := fun s h => ⟨_, rfl, by
  split
  · exact h.advance.setOut
  · exact h
  · exact h⟩
theorem keepsSenses_stallClearingDone (l : LaneId) (r : ClearResult) : KeepsSenses (execStallClearingDone l r) :=
  fun s h => ⟨_, rfl, by
  split
  · cases r with
    | cleared => exact h.zeroErrors.onLink
    | stall => exact h.zeroErrors.onLink
    | nak => exact h
    | transportError => exact h.transportError fun _ ht => ht.onLink
  · exact h⟩
theorem keepsSenses_stallClearingRetry (l : LaneId) : KeepsSenses (execStallClearingRetry l) := fun s h => ⟨_, rfl, by
  split
  · exact h.advance.onLink
  · exact h⟩
theorem keepsSenses_pollIssue (l : LaneId) : KeepsSenses (execPollIssue l) := fun s h => ⟨_, rfl, by
  split
  · exact h.recheckPoll
  · exact h
  · exact h⟩
theorem keepsSenses_inTransactionDone (l : LaneId) (r : InResult) : KeepsSenses (execInTransactionDone l r) :=
  fun s h => ⟨_, rfl, by
  split
  · cases r with
    | data toggle bytes =>
      dsimp only
      split
      · exact h.pollError
      · exact h.zeroErrors
      · exact h.zeroErrors.tookIn.pollGoesOn
      · exact h.zeroErrors.tookIn.packetEnds
    | nak =>
      dsimp only
      split
      · exact h.zeroErrors.setIn
      · exact h.zeroErrors
    | stall => exact h.zeroErrors.recordAsync.setIn.needClearing
    | transportError => exact h.pollError
  · exact h⟩
theorem keepsSenses_pollNakTimeout (l : LaneId) : KeepsSenses (execPollNakTimeout l) := fun s h => ⟨_, rfl, by
  split
  · exact h.advance.transportError fun _ ht => ht.setIn
  · exact h
  · exact h⟩
theorem keepsSenses_pollWaitEnd (l : LaneId) : KeepsSenses (execPollWaitEnd l) := fun s h => ⟨_, rfl, by
  split
  · exact h.advance.recheckPoll
  · split
    · exact h
    · exact h.advance.recheckPoll
  · exact h
  · exact h⟩

/-! ### The collector, the fixture and the arbiter -/

theorem keepsSenses_packTimerExpiry (l : LaneId) : KeepsSenses (execPackTimerExpiry l) := fun s h => ⟨_, rfl, by
  split
  · exact h.advance.onUpstream
  · exact h⟩
theorem keepsSenses_sampleEvent (l : LaneId) (v : Fin 4096) : KeepsSenses (execSampleEvent l v) := fun s h => ⟨_, rfl, by
  split
  · exact h.advance.sample.onSupply
  · exact h⟩
theorem keepsSenses_startInstant (l : LaneId) : KeepsSenses (execStartInstant l) := fun s h => ⟨_, rfl, by
  split
  · exact h.advance.startStep
  · exact h⟩
theorem keepsSenses_stepEnd (l : LaneId) : KeepsSenses (execStepEnd l) := fun s h => ⟨_, rfl, by
  split
  · exact h.advance.afterStep
  · exact h⟩
theorem keepsSenses_releaseGapEnd (l : LaneId) : KeepsSenses (execReleaseGapEnd l) := fun s h => ⟨_, rfl, by
  split
  · exact h.advance.startStep
  · exact h⟩
theorem keepsSenses_retractEnd (l : LaneId) : KeepsSenses (execRetractEnd l) := fun s h => ⟨_, rfl, by
  split
  · exact h.advance.onStrokes.foldl fun _ _ ht => ht.answerStop
  · exact h⟩
theorem keepsSenses_nestQualificationEnd (l : LaneId) : KeepsSenses (execNestQualificationEnd l) := fun s h => ⟨_, rfl, by
  split
  · extract_lets t
    have ht : t.sensesSound := h.advance.onLane fun _ => rfl
    split
    · exact ht.nestSeated
    · exact ht.nestEmptied
  · exact h⟩
theorem keepsSenses_activityTimerExpiry (l : LaneId) : KeepsSenses (execActivityTimerExpiry l) := fun s h => ⟨_, rfl, by
  split
  · exact h.advance.onLane fun _ => rfl
  · exact h⟩
theorem keepsSenses_pacingTimerExpiry (o : Originator) : KeepsSenses (execPacingTimerExpiry o) := fun s h => ⟨_, rfl, by
  split
  · exact h.advance.onOriginator
  · exact h⟩
theorem keepsSenses_frameBuild : KeepsSenses execFrameBuild := fun s h => ⟨_, rfl, by
  split
  · split
    · next hf => exact (h.buildFrame hf).placeFrame
    · exact h
  · exact h⟩
theorem keepsSenses_inTransferDone : KeepsSenses execInTransferDone := fun s h => ⟨_, rfl, by
  split
  · split
    · exact State.sensesSound.transferred (s := { s with transmitting := s.staged, staged := none }) h
    · exact h
  · exact h⟩

/-! ### The port, and the OUT side -/

theorem keepsSenses_setConfiguration : KeepsSenses execSetConfiguration := fun s h => ⟨_, rfl, by split <;> exact h⟩
theorem keepsSenses_deconfigure : KeepsSenses execDeconfigure := fun s h => ⟨_, rfl, by
  split
  · exact h.leaveConfigured
  · exact h⟩
theorem keepsSenses_busReset : KeepsSenses execBusReset := fun s h => ⟨_, rfl, by
  split
  · exact h
  · exact h
  · exact State.sensesSound.leaveConfigured (s := { s with suspended := false }) h⟩
theorem keepsSenses_vbusLoss : KeepsSenses execVbusLoss := fun s h => ⟨_, rfl, by
  dsimp only
  split
  · exact h
  · exact h
  · exact State.sensesSound.leaveConfigured (s := { s with vbus := false, suspended := false }) h⟩
theorem keepsSenses_vbusPresent : KeepsSenses execVbusPresent := fun s h => ⟨_, rfl, by split <;> exact h⟩
theorem keepsSenses_suspend : KeepsSenses execSuspend := fun s h => ⟨_, rfl, by split <;> exact h⟩
theorem keepsSenses_hardResetRelease : KeepsSenses execHardResetRelease := fun s h => ⟨_, rfl, by
  split
  · exact State.sensesSound_deviceReset _ true
  · exact h⟩
theorem keepsSenses_outDataPacket (bytes : List Byte) : KeepsSenses (execOutDataPacket bytes) := fun s h => ⟨_, rfl, by
  split
  · exact h.setRx.pump
  · exact h⟩
theorem keepsSenses_frameDiscarded (bytes : List Byte) : KeepsSenses (execFrameDiscarded bytes) := fun s h => ⟨_, rfl, by
  extract_lets t
  have ht : t.sensesSound := by
    unfold t
    split_ifs
    · exact h
    · exact h.setRx.pump
    · exact h
  split
  · exact ht.setRx.pump
  · exact h⟩
theorem keepsSenses_unknownRequest (o : Originator) (lane code tag : Byte) (body : List Byte) :
    KeepsSenses (execUnknownRequest o lane code tag body) := fun s h => ⟨_, rfl, by
  split
  · exact h
  · exact h.arrive fun _ ht => ht.refuseForm⟩

/-! ### Every command -/

/-- Every command of the table keeps the records sound: a request by its checks and its block's handling, and any other command
by its own law. -/
theorem exec_keepsSenses (i : Instr) : KeepsSenses (exec i) := by
  intro s h
  cases i with
  | frameDiscarded bytes => exact keepsSenses_frameDiscarded bytes s h
  | unknownRequest o lane code tag body => exact keepsSenses_unknownRequest o lane code tag body s h
  | outResume => exact ⟨_, rfl, h.pump⟩
  | setConfiguration => exact keepsSenses_setConfiguration s h
  | deconfigure => exact keepsSenses_deconfigure s h
  | busReset => exact keepsSenses_busReset s h
  | vbusLoss => exact keepsSenses_vbusLoss s h
  | vbusPresent => exact keepsSenses_vbusPresent s h
  | suspend => exact keepsSenses_suspend s h
  | resume => exact ⟨_, rfl, h⟩
  | hardReset => exact ⟨_, rfl, State.sensesSound_deviceReset _ false⟩
  | frameBuild => exact keepsSenses_frameBuild s h
  | inTransferDone => exact keepsSenses_inTransferDone s h
  | pacingTimerExpiry o => exact keepsSenses_pacingTimerExpiry o s h
  | deviceStatus o lane tag body => exact ⟨_, rfl, h.deviceRequest fun _ ht => ht.answer⟩
  | deviceReset o lane tag body => exact ⟨_, rfl, h.deviceRequest fun _ ht => ht⟩
  | configurePool o lane tag body => exact ⟨_, rfl, h.deviceRequest fun _ ht => ht.configurePool⟩
  | setClassActions o lane tag body => exact ⟨_, rfl, h.deviceRequest fun _ ht => ht.setClassActions⟩
  | readClassActions o lane tag body => exact ⟨_, rfl, h.deviceRequest fun _ ht => ht.answer⟩
  | openNotices o lane tag body => exact ⟨_, rfl, h.deviceRequest fun _ ht => ht.openNotices⟩
  | closeNotices o lane tag body => exact ⟨_, rfl, h.deviceRequest fun _ ht => ht.closeNotices⟩
  | setPacing o lane tag body => exact ⟨_, rfl, h.deviceRequest fun _ ht => ht.onOriginator.answer⟩
  | startStrokes o lane tag body => exact ⟨_, rfl, h.deviceRequest fun _ ht => ht.startStrokes⟩
  | deviceSense o lane tag body => exact ⟨_, rfl, h.deviceRequest fun _ ht => ht.deviceSense⟩
  | claimLane o lane tag body => exact ⟨_, rfl, h.laneRequest fun _ _ ht => ht.claimLane⟩
  | yieldLane o lane tag body => exact ⟨_, rfl, h.laneRequest fun _ _ ht => ht.yieldLane⟩
  | breakClaim o lane tag body => exact ⟨_, rfl, h.laneRequest fun _ _ ht => ht.breakClaim⟩
  | laneStatus o lane tag body => exact ⟨_, rfl, h.laneRequest fun _ _ ht => ht.answer⟩
  | laneSense o lane tag body => exact ⟨_, rfl, h.laneRequest fun _ _ ht => ht.laneSense⟩
  | laneIdentity o lane tag body => exact ⟨_, rfl, h.laneRequest fun _ _ ht => ht.answer⟩
  | setLaneOptions o lane tag body => exact ⟨_, rfl, h.laneRequest fun _ _ ht => ht.setLaneOptions⟩
  | laneReset o lane tag body => exact ⟨_, rfl, h.laneRequest fun _ _ ht => ht.laneReset⟩
  | sendPacket o lane tag body => exact ⟨_, rfl, h.laneRequest fun _ _ ht => ht.sendPacket⟩
  | resumeSend o lane tag body => exact ⟨_, rfl, h.laneRequest fun _ _ ht => ht.resumeSend⟩
  | flushLane o lane tag body => exact ⟨_, rfl, h.laneRequest fun _ _ ht => ht.flushLane⟩
  | linkReset o lane tag body => exact ⟨_, rfl, h.laneRequest fun _ _ ht => ht.linkReset⟩
  | setLink o lane tag body => exact ⟨_, rfl, h.laneRequest fun _ _ ht => ht.setLink⟩
  | supply o lane tag body => exact ⟨_, rfl, h.laneRequest fun _ _ ht => ht.supply⟩
  | setTrip o lane tag body => exact ⟨_, rfl, h.laneRequest fun _ _ ht => ht.setTrip⟩
  | armWindow o lane tag body => exact ⟨_, rfl, h.laneRequest fun _ _ ht => ht.armWindow⟩
  | cancelWindow o lane tag body => exact ⟨_, rfl, h.laneRequest fun _ _ ht => ht.cancelWindow⟩
  | readWindow o lane tag body => exact ⟨_, rfl, h.laneRequest fun _ _ ht => ht.answer⟩
  | queueStrokes o lane tag body => exact ⟨_, rfl, h.laneRequest fun _ _ ht => ht.queueStrokes⟩
  | stopStrokes o lane tag body => exact ⟨_, rfl, h.laneRequest fun _ _ ht => ht.stopStrokes⟩
  | setStrokeTiming o lane tag body => exact ⟨_, rfl, h.laneRequest fun _ _ ht => ht.setStrokeTiming⟩
  | setLamp o lane tag body => exact ⟨_, rfl, h.laneRequest fun _ _ ht => ht.setLamp⟩
  | keepPhone o lane tag body => exact ⟨_, rfl, h.laneRequest fun _ _ ht => ht.keepPhone⟩
  | lineStateChange l shows => exact ⟨_, rfl, h.onLink⟩
  | connectDetection l => exact keepsSenses_connectDetection l s h
  | disconnectDetection l => exact keepsSenses_disconnectDetection l s h
  | portResetEnd l b => exact keepsSenses_portResetEnd l b s h
  | enumerationTransferDone l r => exact keepsSenses_enumerationTransferDone l r s h
  | attachRetryExpiry l => exact keepsSenses_attachRetryExpiry l s h
  | identityTransactionDone l r => exact keepsSenses_identityTransactionDone l r s h
  | identityReadTimeout l => exact keepsSenses_identityReadTimeout l s h
  | attachTimerExpiry l => exact keepsSenses_attachTimerExpiry l s h
  | sendStart l => exact keepsSenses_sendStart l s h
  | outTransactionDone l r => exact keepsSenses_outTransactionDone l r s h
  | sendTimerExpiry l => exact keepsSenses_sendTimerExpiry l s h
  | retryWaitEnd l => exact keepsSenses_retryWaitEnd l s h
  | stallClearingDone l r => exact keepsSenses_stallClearingDone l r s h
  | stallClearingRetry l => exact keepsSenses_stallClearingRetry l s h
  | pollIssue l => exact keepsSenses_pollIssue l s h
  | inTransactionDone l r => exact keepsSenses_inTransactionDone l r s h
  | pollNakTimeout l => exact keepsSenses_pollNakTimeout l s h
  | pollWaitEnd l => exact keepsSenses_pollWaitEnd l s h
  | packTimerExpiry l => exact keepsSenses_packTimerExpiry l s h
  | sampleEvent l v => exact keepsSenses_sampleEvent l v s h
  | startInstant l => exact keepsSenses_startInstant l s h
  | stepEnd l => exact keepsSenses_stepEnd l s h
  | releaseGapEnd l => exact keepsSenses_releaseGapEnd l s h
  | retractEnd l => exact keepsSenses_retractEnd l s h
  | nestInputChange l b => exact ⟨_, rfl, h.onLane fun _ => rfl⟩
  | nestQualificationEnd l => exact keepsSenses_nestQualificationEnd l s h
  | activityTimerExpiry l => exact keepsSenses_activityTimerExpiry l s h
  | hardResetRelease => exact keepsSenses_hardResetRelease s h
  | outDataPacket bytes => exact keepsSenses_outDataPacket bytes s h

/-- Settles O55: the front command keeps the records sound, and so does an idle step. -/
theorem senseRecordsStaySound : Obligations.SenseRecordsStaySound := by
  intro s t h ht
  unfold step at ht
  split at ht
  · obtain rfl := Host.Outcome.next.inj ht
    unfold State.idle
    split
    · exact h
    · exact h.advance
  · next c rest _ =>
    obtain ⟨u, hu, hs⟩ := exec_keepsSenses c { s with pending := rest } h
    obtain rfl := Host.Outcome.next.inj (hu.symm.trans ht)
    exact hs

end Sys2Proof.Machine
end

section
/-! What the fixture of a lane is sound by (R131, R145, R146, R155, R159): the measure that `LaneState.fixtureSound` speaks of, and
the operations that leave it. The timers leave it, and so do the link, both engines, the collector and the windows. -/

namespace Sys2Proof.Machine

/-! ### The measure -/

/-- The fixture of a lane as far as its invariant speaks of it: the keys that are driven and those that the stroke state names, the
code of that state, the length of the stroke queue, the debounced nest, and the state of the supply. -/
structure Fixture where
  driven : Bool × Bool
  named : Bool × Bool
  code : Nat
  queued : Nat
  seated : Bool
  supply : SupplyState

def LaneState.fixture (L : LaneState) : Fixture :=
  ⟨(L.strokes.keyA, L.strokes.keyB), L.strokes.state.keys, L.strokes.state.code, L.strokes.queue.length, L.nest.seated,
    L.supply.state⟩

def State.fixtures (s : State) (l : LaneId) : Fixture := (s.lane l).fixture

/-- The keys and the queue are sound, whatever the nest reads. -/
def Fixture.keysSound (f : Fixture) : Prop := f.driven = f.named ∧ f.queued ≤ 16

/-- No supply is ON and no run is under way. -/
def Fixture.dark (f : Fixture) : Prop := f.supply ≠ .on ∧ f.code ≠ 1

/-- The invariant of one lane's fixture as a property of its measure alone. -/
theorem LaneState.fixtureSound_iff (L : LaneState) :
    L.fixtureSound ↔ L.fixture.keysSound ∧ (L.fixture.seated = false → L.fixture.dark) := and_assoc.symm

/-- The invariant of every lane's fixture. -/
def State.fixturesSound (s : State) : Prop := ∀ l : LaneId, (s.lane l).fixtureSound

/-- A change that leaves the fixture of every lane. -/
theorem State.fixturesSound.of_fixtures {s t : State} (h : s.fixturesSound) (e : t.fixtures = s.fixtures) : t.fixturesSound := by
  intro l
  rw [LaneState.fixtureSound_iff, show (t.lane l).fixture = (s.lane l).fixture from congrFun e l]
  exact (LaneState.fixtureSound_iff _).1 (h l)

/-- A change of one lane into one whose fixture is sound. -/
theorem State.fixturesSound.onLane {s : State} (h : s.fixturesSound) {l : LaneId} {f : LaneState → LaneState}
    (hf : (f (s.lane l)).fixtureSound) : (s.onLane l f).fixturesSound := by
  intro k
  by_cases hk : l = k
  · subst hk; rw [State.lane_onLane_self]; exact hf
  · rw [State.lane_onLane_ne _ _ hk]; exact h k

theorem State.fixtures_onLane (s : State) (l : LaneId) (f : LaneState → LaneState) :
    (s.onLane l f).fixtures = Function.update s.fixtures l (f (s.lane l)).fixture := by
  funext k
  by_cases hk : k = l
  · subst hk; simp [State.fixtures]
  · rw [Function.update_of_ne hk, State.fixtures, State.lane_onLane_ne _ _ (Ne.symm hk)]; rfl

/-- A change of one lane that leaves its fixture. -/
theorem State.fixtures_onLane_same (s : State) (l : LaneId) (f : LaneState → LaneState)
    (h : (f (s.lane l)).fixture = (s.lane l).fixture) : (s.onLane l f).fixtures = s.fixtures := by
  rw [State.fixtures_onLane, h]
  exact Function.update_eq_self l s.fixtures

/-- The same, for a change that leaves the fixture of any lane. -/
theorem State.fixtures_onLane_any (s : State) (l : LaneId) (f : LaneState → LaneState) (h : ∀ L, (f L).fixture = L.fixture) :
    (s.onLane l f).fixtures = s.fixtures := s.fixtures_onLane_same l f (h _)

@[simp] theorem State.fixtures_onLink (s : State) (l : LaneId) (f : LaneState → Link → Link) :
    (s.onLane l fun L => L.onLink (f L)).fixtures = s.fixtures := s.fixtures_onLane_same l _ rfl
@[simp] theorem State.fixtures_onUpstream (s : State) (l : LaneId) (f : LaneState → Upstream → Upstream) :
    (s.onLane l fun L => L.onUpstream (f L)).fixtures = s.fixtures := s.fixtures_onLane_same l _ rfl
theorem State.fixtures_onSupply (s : State) (l : LaneId) (f : LaneState → Supply → Supply)
    (h : (f (s.lane l) (s.lane l).supply).state = (s.lane l).supply.state) :
    (s.onLane l fun L => L.onSupply (f L)).fixtures = s.fixtures :=
  s.fixtures_onLane_same l _ (by rw [LaneState.fixture, LaneState.onSupply_supply, h]; rfl)

/-- A sequence of changes, each of which leaves the fixtures. -/
theorem State.fixtures_foldl {α : Type} {f : State → α → State} (hf : ∀ s a, (f s a).fixtures = s.fixtures) (as : List α)
    (s : State) : (as.foldl f s).fixtures = s.fixtures := by
  induction as generalizing s with
  | nil => rfl
  | cons a as ih => rw [List.foldl_cons, ih, hf]

/-! ### Ops.lean: time, events, sense records, replies, the end of a send -/

/-- The passing of time changes neither the code of a stroke state nor the keys that it names. -/
@[simp] theorem StrokeState.code_pass (d : Nat) (k : StrokeState) : (k.pass d).code = k.code := by cases k <;> rfl
@[simp] theorem StrokeState.keys_pass (d : Nat) (k : StrokeState) : (k.pass d).keys = k.keys := by cases k <;> rfl

@[simp] theorem State.fixtures_advance (s : State) (d : Nat) : (s.advance d).fixtures = s.fixtures := by
  funext l
  rw [State.fixtures, State.lane_advance]
  simp only [LaneState.fixture, LaneState.pass, StrokeState.code_pass, StrokeState.keys_pass]
  rfl

@[simp] theorem State.fixtures_onOriginator (s : State) (o : Originator) (f : OriginatorState → OriginatorState) :
    (s.onOriginator o f).fixtures = s.fixtures := rfl
@[simp] theorem State.fixtures_offerLane (s : State) (k : EventKind) (l : LaneId) :
    (s.offerLane k l).fixtures = s.fixtures := rfl
@[simp] theorem State.fixtures_offerDevice (s : State) (k : EventKind) : (s.offerDevice k).fixtures = s.fixtures := rfl
@[simp] theorem State.fixtures_recordLane (s : State) (c : Cond) (o : Originator) (l : LaneId) :
    (s.recordLane c o l).fixtures = s.fixtures := s.fixtures_onLane_same l _ rfl
@[simp] theorem State.fixtures_recordDevice (s : State) (c : Cond) (o : Originator) :
    (s.recordDevice c o).fixtures = s.fixtures := rfl
@[simp] theorem State.fixtures_recordAsync (s : State) (c : Cond) (l : LaneId) :
    (s.recordAsync c l).fixtures = s.fixtures := by
  cases h : (s.lane l).claim with
  | none => rw [State.recordAsync_free _ _ _ h]
  | some k => rw [State.recordAsync_held _ _ _ _ h, State.fixtures_recordLane]
@[simp] theorem State.fixtures_setAttention (s : State) (cause : BitVec 8) (l : LaneId) :
    (s.setAttention cause l).fixtures = s.fixtures := s.fixtures_onLane_same l _ rfl
@[simp] theorem State.fixtures_clearCondition (s : State) (o : Originator) (l : LaneId) :
    (s.clearCondition o l).fixtures = s.fixtures := s.fixtures_onLane_same l _ rfl
@[simp] theorem State.fixtures_clearAttention (s : State) (o : Originator) (l : LaneId) :
    (s.clearAttention o l).fixtures = s.fixtures := s.fixtures_onLane_same l _ rfl
@[simp] theorem State.fixtures_pushReply (s : State) (r : Reply) : (s.pushReply r).fixtures = s.fixtures := rfl
@[simp] theorem State.fixtures_answer (s : State) (rq : Request) (st : Status) (body : List Byte) :
    (s.answer rq st body).fixtures = s.fixtures := rfl
@[simp] theorem State.fixtures_takeDown (s : State) (n : Nat) : (s.takeDown n).fixtures = s.fixtures := rfl
@[simp] theorem State.fixtures_releaseDown (s : State) (n : Nat) : (s.releaseDown n).fixtures = s.fixtures := rfl
@[simp] theorem State.fixtures_endSendCheck (s : State) (c : Cond) (l : LaneId) (r : SendRecord) :
    (s.endSendCheck c l r).fixtures = s.fixtures := by simp [State.endSendCheck]
@[simp] theorem State.fixtures_endSendGood (s : State) (n : Nat) (l : LaneId) (r : SendRecord) :
    (s.endSendGood n l r).fixtures = s.fixtures := by simp [State.endSendGood]
@[simp] theorem State.fixtures_cancelSends (s : State) (c : Cond) (l : LaneId) (rs : List SendRecord) :
    (s.cancelSends c l rs).fixtures = s.fixtures := State.fixtures_foldl (fun t r => t.fixtures_endSendCheck c l r) rs s
@[simp] theorem State.fixtures_cancelChain (l : LaneId) (rs : List SendRecord) (k : Nat) (s : State) :
    (s.cancelChain l k rs).fixtures = s.fixtures := by
  induction rs generalizing k s with
  | nil => rfl
  | cons r rs ih => rw [State.cancelChain, ih, State.fixtures_endSendCheck]

/-! ### LaneBus.lean, Flags.lean, Windows.lean -/

@[simp] theorem State.fixtures_tookOut (s : State) (l : LaneId) : (s.tookOut l).fixtures = s.fixtures :=
  s.fixtures_onLane_same l _ rfl
@[simp] theorem State.fixtures_tookIn (s : State) (l : LaneId) : (s.tookIn l).fixtures = s.fixtures :=
  s.fixtures_onLane_same l _ rfl
@[simp] theorem State.fixtures_squeezeAfterAdmission (s : State) : s.squeezeAfterAdmission.fixtures = s.fixtures := by
  unfold State.squeezeAfterAdmission; split <;> rfl
@[simp] theorem State.fixtures_squeezeAfterRelease (s : State) : s.squeezeAfterRelease.fixtures = s.fixtures := by
  unfold State.squeezeAfterRelease; split <;> rfl
@[simp] theorem State.fixtures_squeezeAfterOptions (s : State) : s.squeezeAfterOptions.fixtures = s.fixtures := by
  simp [State.squeezeAfterOptions]
@[simp] theorem State.fixtures_releaseUp (s : State) (n : Nat) (l : LaneId) : (s.releaseUp n l).fixtures = s.fixtures := by
  rw [State.releaseUp, State.fixtures_squeezeAfterRelease]
  exact s.fixtures_onLane_same l _ rfl
@[simp] theorem State.fixtures_discardUpstream (s : State) (l : LaneId) : (s.discardUpstream l).fixtures = s.fixtures := by
  rw [State.discardUpstream, State.fixtures_releaseUp, State.fixtures_onUpstream]

@[simp] theorem State.fixtures_endWindow (s : State) (done : Bool) (p : WindowParams) (f : Figures) (l : LaneId) :
    (s.endWindow done p f l).fixtures = s.fixtures :=
  s.fixtures_onSupply l (fun _ => Supply.endWindow done p f s.timebase) rfl
@[simp] theorem State.fixtures_abortOnTrip (s : State) (l : LaneId) : (s.abortOnTrip l).fixtures = s.fixtures := by
  unfold State.abortOnTrip; split <;> simp
@[simp] theorem State.fixtures_abortOnEmptied (s : State) (l : LaneId) : (s.abortOnEmptied l).fixtures = s.fixtures := by
  unfold State.abortOnEmptied; split <;> simp
@[simp] theorem State.fixtures_windowSample (s : State) (v : Nat) (l : LaneId) :
    (s.windowSample v l).fixtures = s.fixtures := by
  unfold State.windowSample
  split
  · exact s.fixtures_onSupply l _ rfl
  · split
    · exact s.fixtures_endWindow ..
    · exact s.fixtures_onSupply l _ rfl
  · rfl

/-! ### LinkOps.lean -/

@[simp] theorem State.fixtures_setLinkState (s : State) (k : LinkState) (l : LaneId) :
    (s.setLinkState k l).fixtures = s.fixtures := s.fixtures_onLink l _
@[simp] theorem State.fixtures_enterAttaching (s : State) (l : LaneId) : (s.enterAttaching l).fixtures = s.fixtures :=
  s.fixtures_onLink l _
@[simp] theorem State.fixtures_enterWaiting (s : State) (l : LaneId) : (s.enterWaiting l).fixtures = s.fixtures := by
  unfold State.enterWaiting; split <;> simp
@[simp] theorem State.fixtures_zeroErrors (s : State) (l : LaneId) : (s.zeroErrors l).fixtures = s.fixtures :=
  s.fixtures_onLink l _
@[simp] theorem State.fixtures_leaveUp (s : State) (l : LaneId) : (s.leaveUp l).fixtures = s.fixtures := by
  rw [State.leaveUp, State.fixtures_offerLane, State.fixtures_cancelSends]
  exact s.fixtures_onLane_same l _ rfl
@[simp] theorem State.fixtures_linkFault (s : State) (e : Nat) (l : LaneId) : (s.linkFault e l).fixtures = s.fixtures := by
  simp [State.linkFault]
@[simp] theorem State.fixtures_attachFails (s : State) (n : Nat) (l : LaneId) :
    (s.attachFails n l).fixtures = s.fixtures := by simp [State.attachFails]
/-- R32: a window that fires on LINK_UP leaves the state of the supply. -/
@[simp] theorem State.fixtures_attachSucceeds (s : State) (id : Identity) (l : LaneId) :
    (s.attachSucceeds id l).fixtures = s.fixtures := by
  rw [State.attachSucceeds, State.fixtures_onSupply _ _ _ rfl, State.fixtures_onUpstream, State.fixtures_offerLane,
    State.fixtures_setAttention, State.fixtures_onLink]
@[simp] theorem State.fixtures_linkNestSeated (s : State) (l : LaneId) : (s.linkNestSeated l).fixtures = s.fixtures := by
  unfold State.linkNestSeated; split <;> simp
@[simp] theorem State.fixtures_linkNestEmptied (s : State) (l : LaneId) : (s.linkNestEmptied l).fixtures = s.fixtures := by
  unfold State.linkNestEmptied
  rw [State.fixtures_onLink]
  split <;> simp
@[simp] theorem State.fixtures_linkConnect (s : State) (l : LaneId) : (s.linkConnect l).fixtures = s.fixtures := by
  unfold State.linkConnect; split <;> simp
@[simp] theorem State.fixtures_linkDisconnect (s : State) (l : LaneId) : (s.linkDisconnect l).fixtures = s.fixtures := by
  unfold State.linkDisconnect; split <;> simp
@[simp] theorem State.fixtures_linkReattach (s : State) (l : LaneId) : (s.linkReattach l).fixtures = s.fixtures := by
  unfold State.linkReattach; split <;> simp
@[simp] theorem State.fixtures_linkOff (s : State) (l : LaneId) : (s.linkOff l).fixtures = s.fixtures := by
  unfold State.linkOff; split <;> simp
@[simp] theorem State.fixtures_linkOn (s : State) (l : LaneId) : (s.linkOn l).fixtures = s.fixtures := by
  unfold State.linkOn
  split
  · split <;> simp
  · rfl
@[simp] theorem State.fixtures_linkLaneReset (s : State) (l : LaneId) : (s.linkLaneReset l).fixtures = s.fixtures := by
  simp [State.linkLaneReset]
/-- R36, R37: a link fault, or what `go` makes of the lane with its error counted. -/
theorem State.fixtures_transportError (s : State) (e : Nat) (l : LaneId) {go : State → State}
    (hgo : ∀ t : State, (go t).fixtures = t.fixtures) : (s.transportError e l go).fixtures = s.fixtures := by
  unfold State.transportError
  dsimp only
  split <;> simp [hgo]

/-! ### Collector.lean, Arbiter.lean, Resets.lean -/

theorem LaneState.fixture_evalEligible (L : LaneState) : L.evalEligible.fixture = L.fixture := by
  unfold LaneState.evalEligible
  split_ifs <;> rfl
theorem LaneState.fixture_recordsJoined (before : List PacketRecord) (L : LaneState) :
    (L.recordsJoined before).fixture = L.fixture := by
  unfold LaneState.recordsJoined
  rw [LaneState.fixture_evalEligible]
  split_ifs <;> rfl
theorem LaneState.fixture_takeIn (p : PacketRecord) (L : LaneState) : (L.takeIn p).fixture = L.fixture :=
  LaneState.fixture_recordsJoined _ _
theorem LaneState.fixture_returned (records : List PacketRecord) (L : LaneState) : (L.returned records).fixture = L.fixture := by
  unfold LaneState.returned
  split
  · rfl
  · exact LaneState.fixture_recordsJoined _ _

@[simp] theorem State.fixtures_overrun (s : State) (seq : BitVec 16) (l : LaneId) : (s.overrun seq l).fixtures = s.fixtures := by
  rw [State.overrun, State.fixtures_offerLane, State.fixtures_recordAsync, State.fixtures_onUpstream]
@[simp] theorem State.fixtures_sequenceStep (s : State) (data : List Byte) (damaged urgent : Bool) (l : LaneId) :
    (s.sequenceStep data damaged urgent l).fixtures = s.fixtures := by
  unfold State.sequenceStep
  dsimp only
  split
  · rw [State.fixtures_squeezeAfterAdmission, State.fixtures_onLane_same _ _ _ (LaneState.fixture_takeIn _ _),
      State.fixtures_onUpstream]
  · rw [State.fixtures_overrun, State.fixtures_onUpstream]
@[simp] theorem State.fixtures_classStep (s : State) (data : List Byte) (damaged : Bool) (l : LaneId) :
    (s.classStep data damaged l).fixtures = s.fixtures := by
  unfold State.classStep
  split <;> simp
@[simp] theorem State.fixtures_arrival (s : State) (kept : List Byte) (count : Nat) (l : LaneId) :
    (s.arrival kept count l).fixtures = s.fixtures := by
  unfold State.arrival
  split_ifs <;> simp

/-- R13: the building of a frame takes from the reply store, an accumulator or an upstream queue. -/
theorem State.fixtures_buildFrame {s t : State} {f : Frame} (h : s.buildFrame = some (f, t)) : t.fixtures = s.fixtures := by
  unfold State.buildFrame at h
  split at h
  · cases h; rfl
  · split at h
    · cases h; rfl
    · split at h
      · next u hu =>
        have hc : u.fixtures = s.fixtures := funext fun k => congrArg LaneState.fixture (State.lane_chooseLane hu k)
        unfold State.buildDataUp at h
        split at h
        · cases h
        · cases h; rw [State.fixtures_onUpstream, hc]
      · cases h
@[simp] theorem State.fixtures_placeFrame (s : State) (f : Frame) : (s.placeFrame f).fixtures = s.fixtures := by
  unfold State.placeFrame; split <;> rfl
@[simp] theorem State.fixtures_stationLinkReset (s : State) : s.stationLinkReset.fixtures = s.fixtures := by
  funext l
  rw [State.fixtures, State.lane_stationLinkReset]
  exact LaneState.fixture_returned _ _

/-! ### AttachEvents.lean -/

@[simp] theorem State.fixtures_setPhase (s : State) (p : AttachPhase) (l : LaneId) : (s.setPhase p l).fixtures = s.fixtures :=
  s.fixtures_onLink l _
@[simp] theorem State.fixtures_judgeIdentity (s : State) (bytes : List Byte) (count : Nat) (l : LaneId) :
    (s.judgeIdentity bytes count l).fixtures = s.fixtures := by
  unfold State.judgeIdentity
  split
  · split <;> simp
  · simp
@[simp] theorem State.fixtures_identityRequest (s : State) (r : OutResult) (l : LaneId) :
    (s.identityRequest r l).fixtures = s.fixtures := by cases r <;> simp [State.identityRequest]
@[simp] theorem State.fixtures_identityRead (s : State) (r : InResult) (p : Poll) (l : LaneId) :
    (s.identityRead r p l).fixtures = s.fixtures := by
  unfold State.identityRead
  split
  · split <;> simp
  · split <;> simp
  · simp
  · simp

/-! ### SendRequests.lean, OutEngine.lean, InEngine.lean -/

@[simp] theorem State.fixtures_setHalted (s : State) (b : Bool) (l : LaneId) : (s.setHalted b l).fixtures = s.fixtures :=
  s.fixtures_onLane_same l _ rfl
@[simp] theorem State.fixtures_flushDown (s : State) (l : LaneId) : (s.flushDown l).fixtures = s.fixtures := by
  rw [State.flushDown, State.fixtures_cancelSends]
  exact s.fixtures_onLane_same l _ rfl
@[simp] theorem State.fixtures_resetSends (s : State) (l : LaneId) : (s.resetSends l).fixtures = s.fixtures := by
  rw [State.resetSends, State.fixtures_cancelSends]
  exact s.fixtures_onLane_same l _ rfl
@[simp] theorem State.fixtures_setOut (s : State) (e : OutEngine) (l : LaneId) : (s.setOut e l).fixtures = s.fixtures :=
  s.fixtures_onLink l _
@[simp] theorem State.fixtures_retryWait (s : State) (f : Flight) (l : LaneId) : (s.retryWait f l).fixtures = s.fixtures :=
  s.fixtures_setOut _ l
@[simp] theorem State.fixtures_needClearing (s : State) (e : Endpoint) (l : LaneId) :
    (s.needClearing e l).fixtures = s.fixtures := s.fixtures_onLink l _
@[simp] theorem State.fixtures_sendSucceeds (s : State) (f : Flight) (l : LaneId) :
    (s.sendSucceeds f l).fixtures = s.fixtures := by
  unfold State.sendSucceeds
  dsimp only
  split
  · rw [State.fixtures_endSendCheck]; exact s.fixtures_onLane_same l _ rfl
  · rw [State.fixtures_endSendGood]; exact s.fixtures_onLane_same l _ rfl
@[simp] theorem State.fixtures_sendRefused (s : State) (cond : Nat → Cond) (f : Flight) (l : LaneId) :
    (s.sendRefused cond f l).fixtures = s.fixtures := by
  unfold State.sendRefused
  dsimp only
  rw [State.fixtures_cancelChain, State.fixtures_endSendCheck, State.fixtures_offerLane]
  exact s.fixtures_onLane_same l _ rfl
@[simp] theorem State.fixtures_setIn (s : State) (e : InEngine) (l : LaneId) : (s.setIn e l).fixtures = s.fixtures :=
  s.fixtures_onLink l _
@[simp] theorem State.fixtures_recheckPoll (s : State) (p : Option Poll) (l : LaneId) :
    (s.recheckPoll p l).fixtures = s.fixtures := s.fixtures_setIn _ l
@[simp] theorem State.fixtures_packetEnds (s : State) (bytes : List Byte) (count : Nat) (l : LaneId) :
    (s.packetEnds bytes count l).fixtures = s.fixtures := by
  rw [State.packetEnds, State.fixtures_recheckPoll, State.fixtures_arrival, State.fixtures_onLane_same _ _ _ rfl,
    State.fixtures_setIn]
@[simp] theorem State.fixtures_pollError (s : State) (p : Poll) (l : LaneId) : (s.pollError p l).fixtures = s.fixtures :=
  s.fixtures_transportError 1 l fun t => t.fixtures_setIn _ l
@[simp] theorem State.fixtures_pollGoesOn (s : State) (p : Poll) (l : LaneId) : (s.pollGoesOn p l).fixtures = s.fixtures :=
  s.fixtures_setIn _ l

end Sys2Proof.Machine
end

section
/-! The operations that change a fixture keep it sound (R130 to R134, R145 to R155, R159): the supply comes ON and a run starts on
a seated nest alone, and a nest that empties ends both. -/

namespace Sys2Proof.Machine

/-! ### One lane -/

/-- R131: a supply that is ON, and R155: a run, say that the nest is seated. -/
theorem LaneState.fixtureSound.seated_of_on {L : LaneState} (h : L.fixtureSound) (hs : L.supply.state = .on) :
    L.nest.seated = true := by
  by_contra hn
  exact (h.2.2 (Bool.not_eq_true _ ▸ hn)).1 hs
theorem LaneState.fixtureSound.seated_of_run {L : LaneState} (h : L.fixtureSound) (hc : L.strokes.state.code = 1) :
    L.nest.seated = true := by
  by_contra hn
  exact (h.2.2 (Bool.not_eq_true _ ▸ hn)).2 hc

/-- A supply that takes the place of another is ON only where that one was, or on a seated nest. -/
theorem LaneState.fixtureSound.withSupply {L : LaneState} (h : L.fixtureSound) {u : Supply}
    (hu : u.state = .on → L.supply.state = .on ∨ L.nest.seated = true) : ({ L with supply := u } : LaneState).fixtureSound := by
  obtain ⟨hkeys, hqueue, hempty⟩ := h
  refine ⟨hkeys, hqueue, fun hn => ⟨fun hon => ?_, (hempty hn).2⟩⟩
  rcases hu hon with ho | ht
  · exact (hempty hn).1 ho
  · exact Bool.false_ne_true (hn.symm.trans ht)

/-- Strokes that take the place of others drive the keys that their state names, and run only where those ran, or on a seated
nest. -/
theorem LaneState.fixtureSound.withStrokes {L : LaneState} (h : L.fixtureSound) {k : Strokes}
    (hkeys : (k.keyA, k.keyB) = k.state.keys) (hqueue : k.queue.length ≤ 16)
    (hrun : k.state.code = 1 → L.strokes.state.code = 1 ∨ L.nest.seated = true) :
    ({ L with strokes := k } : LaneState).fixtureSound := by
  obtain ⟨-, -, hempty⟩ := h
  refine ⟨hkeys, hqueue, fun hn => ⟨(hempty hn).1, fun hc => ?_⟩⟩
  rcases hrun hc with ho | ht
  · exact (hempty hn).2 ho
  · exact Bool.false_ne_true (hn.symm.trans ht)

/-- R154, R155: strokes that are stopped are no run, and drive no key that their state does not name. -/
theorem Strokes.stop_sound (k : Strokes) (h : (k.keyA, k.keyB) = k.state.keys) :
    (k.stop.keyA, k.stop.keyB) = k.stop.state.keys ∧ k.stop.queue.length ≤ 16 ∧ k.stop.state.code ≠ 1 := by
  unfold Strokes.stop
  cases hs : k.state with
  | idle | stopping => exact ⟨by simpa [hs] using h, Nat.zero_le _, by simp [StrokeState.code]⟩
  | pending | step | gap => exact ⟨rfl, Nat.zero_le _, by simp [StrokeState.code]⟩
theorem LaneState.fixtureSound.stop {L : LaneState} (h : L.fixtureSound) : (L.onStrokes Strokes.stop).fixtureSound := by
  obtain ⟨hkeys, hqueue, hcode⟩ := L.strokes.stop_sound h.1
  exact h.withStrokes hkeys hqueue fun hc => absurd hc hcode

theorem State.fixturesSound.onStrokes {s : State} (h : s.fixturesSound) {l : LaneId} {f : Strokes → Strokes}
    (hkeys : ((f (s.lane l).strokes).keyA, (f (s.lane l).strokes).keyB) = (f (s.lane l).strokes).state.keys)
    (hqueue : (f (s.lane l).strokes).queue.length ≤ 16)
    (hrun : (f (s.lane l).strokes).state.code = 1 → (s.lane l).strokes.state.code = 1 ∨ (s.lane l).nest.seated = true) :
    (s.onLane l fun L => L.onStrokes f).fixturesSound := h.onLane ((h l).withStrokes hkeys hqueue hrun)

/-- The nest of a lane is what the measure says. -/
theorem State.seated_of_fixtures {s t : State} {l : LaneId} (e : t.fixtures = s.fixtures) (h : (s.lane l).nest.seated = true) :
    (t.lane l).nest.seated = true := (congrArg Fixture.seated (congrFun e l)).trans h

/-! ### Windows.lean: the trip logic (R133, R134) -/

theorem Supply.judge_state (v : Nat) (u : Supply) : (u.judge v).1.state = u.state := by
  unfold Supply.judge
  split_ifs <;> rfl

theorem State.fixturesSound.tripSample {s : State} (h : s.fixturesSound) (v : Nat) (l : LaneId) :
    (s.tripSample v l).fixturesSound := by
  have hj : (s.onLane l fun L => L.onSupply fun u => (u.judge v).1).fixturesSound :=
    h.of_fixtures (s.fixtures_onSupply l (fun _ u => (u.judge v).1) (Supply.judge_state v _))
  unfold State.tripSample
  dsimp only
  split
  · have ht := hj.onLane (l := l) (f := fun L => L.onSupply fun u => { u.zeroCounts with state := .tripped })
      ((hj l).withSupply fun hon => nomatch hon)
    exact ht.of_fixtures (by rw [State.trip, State.fixtures_offerLane, State.fixtures_recordAsync, State.fixtures_abortOnTrip])
  · exact hj

/-- R132: the windows leave the state of the supply, and a trip ends ON. -/
theorem State.fixturesSound.sample {s : State} (h : s.fixturesSound) (v : Nat) (l : LaneId) : (s.sample v l).fixturesSound := by
  have hw : ((s.onLane l fun L => L.onSupply (Supply.fireOn hitsNow)).windowSample v l).fixturesSound :=
    h.of_fixtures (by rw [State.fixtures_windowSample, State.fixtures_onSupply _ _ _ rfl])
  exact hw.tripSample v l

/-! ### StrokeOps.lean, FixtureEvents.lean -/

/-- R151: a step that starts drives its own keys, on a lane whose nest is seated. -/
theorem State.fixturesSound.startStep {s : State} (h : s.fixturesSound) {l : LaneId} (hn : (s.lane l).nest.seated = true) :
    (s.startStep l).fixturesSound := by
  unfold State.startStep
  split
  · exact h
  · next st rest hq =>
    extract_lets k t
    have ht : t.fixturesSound := by
      have hlen : rest.length ≤ 16 := by
        have hle := (h l).2.1
        rw [hq, List.length_cons] at hle
        omega
      refine h.onLane (LaneState.fixtureSound.withSupply ?_ Or.inl)
      exact (h l).withStrokes rfl hlen fun _ => .inr hn
    split
    · exact ht
    · exact ht

/-- R153: a run that ends drives no key. -/
theorem State.fixturesSound.endRun {s : State} (h : s.fixturesSound) (l : LaneId) : (s.endRun l).fixturesSound :=
  h.onStrokes (f := fun k => { k with state := .idle, keyA := false, keyB := false }) rfl (h l).2.1 fun hc => nomatch hc

/-- R154: a retract that ends drives no key. -/
theorem State.fixturesSound.retracted {s : State} (h : s.fixturesSound) {l : LaneId}
    (hc : (s.fixtures l).named = (false, false)) :
    (s.onLane l fun L => L.onStrokes fun k => { k with state := .idle, waiting := [] }).fixturesSound :=
  h.onStrokes ((h l).1.trans hc) (h l).2.1 fun hc => nomatch hc

/-- R152, R153: what follows a step. -/
theorem State.fixturesSound.afterStep {s : State} (h : s.fixturesSound) (ending : Step) {l : LaneId}
    (hn : (s.lane l).nest.seated = true) : (s.afterStep ending l).fixturesSound := by
  unfold State.afterStep
  split
  · exact h.endRun l
  · split
    · exact h.onStrokes rfl (h l).2.1 fun _ => .inr hn
    · exact h.startStep hn

/-- R155: strokes on an emptied nest stop, and nothing else of the fixture changes. -/
theorem State.fixtures_strokesNestEmptied (s : State) (l : LaneId) : ∃ f : Fixture,
    (s.strokesNestEmptied l).fixtures = Function.update s.fixtures l f ∧ f.supply = (s.fixtures l).supply ∧ f.code ≠ 1 ∧
      ((s.fixtures l).keysSound → f.keysSound) := by
  unfold State.strokesNestEmptied
  split
  · next hs =>
    refine ⟨s.fixtures l, (Function.update_eq_self ..).symm, rfl, ?_, id⟩
    show (s.lane l).strokes.state.code ≠ 1
    rw [hs]
    decide
  · refine ⟨((s.lane l).onStrokes Strokes.stop).fixture, ?_, rfl, ?_, fun hk => ?_⟩
    · rw [State.fixtures_recordAsync, State.fixtures_onLane]
    · unfold LaneState.fixture Strokes.stop
      dsimp only [LaneState.onStrokes]
      split <;> simp_all [StrokeState.code]
    · obtain ⟨hkeys, hqueue, -⟩ := (s.lane l).strokes.stop_sound hk.1
      exact ⟨hkeys, hqueue⟩

theorem State.fixtures_keepNestEmptied (s : State) (l : LaneId) : (s.keepNestEmptied l).fixtures = s.fixtures := by
  unfold State.keepNestEmptied
  split
  · rw [State.fixtures_onLane_same _ _ _ rfl, State.fixtures_recordAsync]
  · rfl

/-- R131: a supply on an emptied nest is not ON. -/
theorem Supply.nestEmptied_state_ne_on (u : Supply) : u.nestEmptied.state ≠ .on := by
  unfold Supply.nestEmptied
  cases hs : u.state <;> simp [hs]

/-- R131, R155, R159: a nest that empties leaves its lane with no supply ON and no run, and the other lanes as they were. -/
theorem State.fixtures_nestEmptied (s : State) (l : LaneId) : ∃ f : Fixture,
    (s.nestEmptied l).fixtures = Function.update s.fixtures l f ∧ f.dark ∧ ((s.fixtures l).keysSound → f.keysSound) := by
  have hoff : (((s.linkNestEmptied l).onLane l fun L => L.onSupply Supply.nestEmptied).abortOnEmptied l).fixtures =
      Function.update s.fixtures l { s.fixtures l with supply := ((s.linkNestEmptied l).lane l).supply.nestEmptied.state } := by
    have hl : ((s.linkNestEmptied l).lane l).fixture = s.fixtures l := congrFun (s.fixtures_linkNestEmptied l) l
    rw [State.fixtures_abortOnEmptied, State.fixtures_onLane, State.fixtures_linkNestEmptied, ← hl]
    rfl
  obtain ⟨f, hf, hsupply, hcode, hkeys⟩ :=
    (((s.linkNestEmptied l).onLane l fun L => L.onSupply Supply.nestEmptied).abortOnEmptied l).fixtures_strokesNestEmptied l
  rw [hoff, Function.update_self] at hsupply hkeys
  refine ⟨f, ?_, ⟨?_, hcode⟩, hkeys⟩
  · rw [State.nestEmptied, State.fixtures_offerLane, State.fixtures_setAttention, State.fixtures_keepNestEmptied, hf, hoff,
      Function.update_idem]
  · rw [hsupply]
    exact Supply.nestEmptied_state_ne_on _

@[simp] theorem State.fixtures_nestSeated (s : State) (l : LaneId) : (s.nestSeated l).fixtures = s.fixtures := by
  simp [State.nestSeated]
@[simp] theorem State.fixtures_answerStop (s : State) (l : LaneId) (w : StopWait) : (s.answerStop l w).fixtures = s.fixtures := by
  simp [State.answerStop]

/-- R157: a lane whose nest takes the raw level. -/
def LaneState.nestSettled (L : LaneState) : LaneState := { L with nest := { L.nest with seated := L.nest.raw, qual := none } }

/-- R157 to R159: a nest that settles seated asks for nothing, and one that settles EMPTY leaves its lane dark. -/
theorem State.fixturesSound.nestSettles {s : State} (h : s.fixturesSound) (l : LaneId) :
    ((s.lane l).nest.raw = true → ((s.onLane l LaneState.nestSettled).nestSeated l).fixturesSound) ∧
      ((s.onLane l LaneState.nestSettled).nestEmptied l).fixturesSound := by
  obtain ⟨hkeys, hqueue, hempty⟩ := h l
  refine ⟨fun hraw => ?_, fun k => ?_⟩
  · have hseated : (s.lane l).nestSettled.fixtureSound := ⟨hkeys, hqueue, fun hn => absurd (hn.symm.trans hraw) Bool.false_ne_true⟩
    exact (h.onLane hseated).of_fixtures (State.fixtures_nestSeated _ l)
  · obtain ⟨f, hf, hdark, hsound⟩ := (s.onLane l LaneState.nestSettled).fixtures_nestEmptied l
    rw [State.fixtures_onLane, Function.update_idem] at hf
    rw [State.fixtures_onLane, Function.update_self] at hsound
    rw [LaneState.fixtureSound_iff, show (State.lane _ k).fixture = Function.update s.fixtures l f k from congrFun hf k]
    by_cases hk : k = l
    · subst hk
      rw [Function.update_self]
      exact ⟨hsound ⟨hkeys, hqueue⟩, fun _ => hdark⟩
    · rw [Function.update_of_ne hk]
      exact (LaneState.fixtureSound_iff _).1 (h k)

/-! ### Resets of the whole part -/

/-- R145, R157: after a device reset every nest is EMPTY and its lane dark. -/
theorem State.fixturesSound_deviceReset (s : State) (running : Bool) : (s.deviceReset running).fixturesSound := fun l => by
  rw [State.lane_deviceReset]
  exact ⟨rfl, Nat.zero_le _, fun _ => ⟨nofun, nofun⟩⟩
theorem State.fixturesSound.leaveConfigured {s : State} (h : s.fixturesSound) (p : PortState) :
    (s.leaveConfigured p).fixturesSound := by
  unfold State.leaveConfigured
  dsimp only
  split
  · exact State.fixturesSound_deviceReset _ true
  · exact h.of_fixtures (State.fixtures_stationLinkReset _)
theorem State.fixturesSound.transferred {s : State} (h : s.fixturesSound) (f : Frame) : (s.transferred f).fixturesSound := by
  unfold State.transferred
  split
  · split
    · exact State.fixturesSound_deviceReset _ true
    · exact h
  · exact h
  · exact h.of_fixtures (State.fixtures_releaseUp ..)

end Sys2Proof.Machine
end

section
/-! Every request keeps the fixtures sound: most leave them, and SUPPLY, QUEUE_STROKES, STOP_STROKES, START_STROKES and LANE_RESET
change them by the laws above (R80, R81, R130, R147, R149, R150, R154). -/

namespace Sys2Proof.Machine

/-! ### The request checks and the replies -/

@[simp] theorem State.fixtures_setRx (s : State) (x : Rx) : (s.setRx x).fixtures = s.fixtures := rfl
@[simp] theorem State.fixtures_pump (s : State) : s.pump.fixtures = s.fixtures := rfl
@[simp] theorem State.fixtures_setClaim (s : State) (c : Option Claim) (l : LaneId) :
    (s.setClaim c l).fixtures = s.fixtures := s.fixtures_onLane_same l _ rfl
@[simp] theorem State.fixtures_refuseForm (s : State) (c : Cond) (rq : Request) :
    (s.refuseForm c rq).fixtures = s.fixtures := by
  unfold State.refuseForm
  split <;> simp
@[simp] theorem State.fixtures_refuseLane (s : State) (c : Cond) (l : LaneId) (rq : Request) :
    (s.refuseLane c l rq).fixtures = s.fixtures := by simp [State.refuseLane]
@[simp] theorem State.fixtures_refuseDevice (s : State) (c : Cond) (rq : Request) :
    (s.refuseDevice c rq).fixtures = s.fixtures := by simp [State.refuseDevice]
@[simp] theorem State.fixtures_refuseAttention (s : State) (l : LaneId) (rq : Request) :
    (s.refuseAttention l rq).fixtures = s.fixtures := by simp [State.refuseAttention]
@[simp] theorem State.fixtures_goodLane (s : State) (body : List Byte) (l : LaneId) (rq : Request) :
    (s.goodLane body l rq).fixtures = s.fixtures := by simp [State.goodLane]

theorem State.fixturesSound.answer {s : State} (h : s.fixturesSound) {rq : Request} {st : Status} {body : List Byte} :
    (s.answer rq st body).fixturesSound := h
theorem State.fixturesSound.goodLane {s : State} (h : s.fixturesSound) {body : List Byte} {l : LaneId} {rq : Request} :
    (s.goodLane body l rq).fixturesSound := h.of_fixtures (s.fixtures_goodLane body l rq)
theorem State.fixturesSound.refuseLane {s : State} (h : s.fixturesSound) {c : Cond} {l : LaneId} {rq : Request} :
    (s.refuseLane c l rq).fixturesSound := h.of_fixtures (s.fixtures_refuseLane c l rq)
theorem State.fixturesSound.refuseDevice {s : State} (h : s.fixturesSound) {c : Cond} {rq : Request} :
    (s.refuseDevice c rq).fixturesSound := h.of_fixtures (s.fixtures_refuseDevice c rq)

/-- A request changes the fixtures by its handling alone. -/
theorem State.fixturesSound.arrive {s : State} (h : s.fixturesSound) {rq : Request} {handle : Request → State → State}
    (hh : ∀ t : State, t.fixturesSound → (handle rq t).fixturesSound) : (Machine.arrive rq handle s).fixturesSound := by
  unfold Machine.arrive State.takeRequest
  split
  · exact h
  · next t ht =>
    have hk : t.fixturesSound := by split_ifs at ht <;> (cases ht; exact h)
    exact (hh t hk).of_fixtures (State.fixtures_pump _)

/-- The request checks, and then the owning block's handling. -/
theorem State.fixturesSound.laneRequest {s : State} (h : s.fixturesSound) {access : Access} {ok : Nat → Bool} {rq : Request}
    {handle : LaneId → Request → State → State}
    (hh : ∀ (l : LaneId) (t : State), t.fixturesSound → (handle l rq t).fixturesSound) :
    (Machine.arrive rq (Machine.laneRequest access ok handle) s).fixturesSound := by
  refine h.arrive fun t ht => ?_
  unfold Machine.laneRequest
  dsimp only
  split_ifs
  · exact ht.of_fixtures (t.fixtures_refuseForm _ rq)
  · exact ht.of_fixtures (t.fixtures_refuseAttention _ rq)
  · exact ht
  · exact hh _ t ht
  · exact ht.of_fixtures (t.fixtures_refuseForm _ rq)
theorem State.fixturesSound.deviceRequest {s : State} (h : s.fixturesSound) {ok : Nat → Bool} {rq : Request}
    {handle : Request → State → State} (hh : ∀ t : State, t.fixturesSound → (handle rq t).fixturesSound) :
    (Machine.arrive rq (Machine.deviceRequest ok handle) s).fixturesSound := by
  refine h.arrive fun t ht => ?_
  unfold Machine.deviceRequest
  split_ifs
  · exact ht.of_fixtures (t.fixtures_refuseForm _ rq)
  · exact ht.of_fixtures (t.fixtures_refuseForm _ rq)
  · exact hh t ht

/-! ### Requests that leave the fixtures -/

theorem fixtures_configurePool (s : State) (rq : Request) : (handleConfigurePool rq s).fixtures = s.fixtures := by
  have hsplit (d g : Nat) : (s.applySplit d g).fixtures = s.fixtures := by
    unfold State.applySplit
    extract_lets t
    have ht : t.fixtures = s.fixtures := by
      funext l
      rw [State.fixtures, State.lane_onLanes]
      rfl
    split
    · exact ht
    · exact ht
  unfold handleConfigurePool
  dsimp only
  split_ifs <;> simp [hsplit]
theorem fixtures_setClassActions (s : State) (rq : Request) : (handleSetClassActions rq s).fixtures = s.fixtures := by
  unfold handleSetClassActions
  dsimp only
  split
  · simp
  · rfl
theorem fixtures_openNotices (s : State) (rq : Request) : (handleOpenNotices rq s).fixtures = s.fixtures := by
  unfold handleOpenNotices
  split <;> simp
theorem fixtures_closeNotices (s : State) (rq : Request) : (handleCloseNotices rq s).fixtures = s.fixtures := by
  unfold handleCloseNotices
  split <;> simp

theorem fixtures_claimLane (s : State) (l : LaneId) (rq : Request) : (handleClaimLane l rq s).fixtures = s.fixtures := by
  unfold handleClaimLane
  split
  · simp
  · split
    · simp
    · dsimp only
      split <;> simp
theorem fixtures_yieldLane (s : State) (l : LaneId) (rq : Request) : (handleYieldLane l rq s).fixtures = s.fixtures := by
  unfold handleYieldLane
  split_ifs <;> simp
theorem fixtures_breakClaim (s : State) (l : LaneId) (rq : Request) : (handleBreakClaim l rq s).fixtures = s.fixtures := by
  unfold handleBreakClaim
  split <;> simp
theorem fixtures_laneSense (s : State) (l : LaneId) (rq : Request) : (handleLaneSense l rq s).fixtures = s.fixtures := by
  rw [handleLaneSense, State.fixtures_answer]
  exact s.fixtures_onLane_same l _ rfl
theorem LaneState.fixture_applyOptions (body : List Byte) (L : LaneState) : (L.applyOptions body).fixture = L.fixture := by
  unfold LaneState.applyOptions LaneState.holdAfterOptions LaneState.evalPack LaneState.evalEligible
  split_ifs <;> rfl
theorem fixtures_setLaneOptions (s : State) (l : LaneId) (rq : Request) :
    (handleSetLaneOptions l rq s).fixtures = s.fixtures := by
  unfold handleSetLaneOptions
  split
  · rw [State.fixtures_goodLane, State.fixtures_squeezeAfterOptions,
      State.fixtures_onLane_same _ _ _ (LaneState.fixture_applyOptions _ _)]
  · simp
theorem fixtures_sendPacket (s : State) (l : LaneId) (rq : Request) : (handleSendPacket l rq s).fixtures = s.fixtures := by
  unfold handleSendPacket
  dsimp only
  split_ifs
  · simp
  · simp
  · simp
  · rw [State.fixtures_onLane_same _ _ _ rfl, State.fixtures_takeDown]
theorem fixtures_resumeSend (s : State) (l : LaneId) (rq : Request) : (handleResumeSend l rq s).fixtures = s.fixtures := by
  simp [handleResumeSend]
theorem fixtures_flushLane (s : State) (l : LaneId) (rq : Request) : (handleFlushLane l rq s).fixtures = s.fixtures := by
  unfold handleFlushLane
  dsimp only
  split <;> simp
theorem fixtures_linkReset (s : State) (l : LaneId) (rq : Request) : (handleLinkReset l rq s).fixtures = s.fixtures := by
  unfold handleLinkReset
  split <;> simp
theorem fixtures_setLink (s : State) (l : LaneId) (rq : Request) : (handleSetLink l rq s).fixtures = s.fixtures := by
  unfold handleSetLink
  dsimp only
  split_ifs <;> simp
theorem fixtures_setTrip (s : State) (l : LaneId) (rq : Request) : (handleSetTrip l rq s).fixtures = s.fixtures := by
  rw [handleSetTrip, State.fixtures_goodLane]
  exact s.fixtures_onSupply l (fun _ => Supply.setTrip _ _ _) rfl
/-- R137: a window that is placed leaves the state of the supply. -/
theorem fixtures_armWindow (s : State) (l : LaneId) (rq : Request) : (handleArmWindow l rq s).fixtures = s.fixtures := by
  unfold handleArmWindow
  split
  · simp
  · split_ifs
    · rw [State.fixtures_goodLane, State.fixtures_onSupply _ _ _ rfl]
    · rw [State.fixtures_goodLane, State.fixtures_onSupply _ _ _ rfl]
    · simp
theorem fixtures_cancelWindow (s : State) (l : LaneId) (rq : Request) : (handleCancelWindow l rq s).fixtures = s.fixtures := by
  rw [handleCancelWindow, State.fixtures_goodLane, State.fixtures_onSupply _ _ _ rfl]
/-- R148: the release gap and the low mark are no part of what is driven. -/
theorem fixtures_setStrokeTiming (s : State) (l : LaneId) (rq : Request) :
    (handleSetStrokeTiming l rq s).fixtures = s.fixtures := by
  rw [handleSetStrokeTiming, State.fixtures_goodLane]
  exact s.fixtures_onLane_same l _ rfl
theorem fixtures_setLamp (s : State) (l : LaneId) (rq : Request) : (handleSetLamp l rq s).fixtures = s.fixtures := by
  unfold handleSetLamp
  split
  · simp
  · rw [State.fixtures_goodLane, State.fixtures_onLane_same _ _ _ rfl]
theorem fixtures_keepPhone (s : State) (l : LaneId) (rq : Request) : (handleKeepPhone l rq s).fixtures = s.fixtures := by
  unfold handleKeepPhone
  dsimp only
  split_ifs
  · simp
  · simp
  · rw [State.fixtures_goodLane, State.fixtures_onLane_same _ _ _ rfl]

/-! ### Requests that change them -/

/-- R130, R131: an action turns a supply ON on a seated nest alone. -/
theorem Supply.act_on {action : Nat} {seated : Bool} {u w : Supply} (h : u.act action seated = some w) (hw : w.state = .on) :
    u.state = .on ∨ seated = true := by
  unfold Supply.act at h
  split at h
  · cases h; cases hw
  · cases h; exact .inl hw
  · cases h; exact .inl hw
  · split_ifs at h with hs
    exact .inr hs
  · cases h; exact .inl hw
  · cases h
  · cases h; cases hw
  · cases h; exact .inl hw
  · cases h; exact .inl hw

@[simp] theorem Supply.select_state (src : Source) (mv : Nat) (u : Supply) : (u.select src mv).state = u.state := by
  unfold Supply.select
  dsimp only
  split_ifs <;> rfl

theorem State.fixturesSound.supply {s : State} (h : s.fixturesSound) {l : LaneId} {rq : Request} :
    (handleSupply l rq s).fixturesSound := by
  unfold handleSupply
  dsimp only
  split
  · exact h.refuseLane
  · split
    · exact h.refuseLane
    · split
      · next ha =>
        refine State.fixturesSound.goodLane (h.onLane ((h l).withSupply fun hon => ?_))
        simpa using Supply.act_on ha hon
      · split
        · exact h.refuseLane
        · exact h.refuseLane

/-- R147: the steps that are appended fit in the queue. -/
theorem State.fixturesSound.queueStrokes {s : State} (h : s.fixturesSound) {l : LaneId} {rq : Request} :
    (handleQueueStrokes l rq s).fixturesSound := by
  unfold handleQueueStrokes
  dsimp only
  split
  · exact h.refuseLane
  · next sts _ =>
    split
    · exact h.refuseLane
    · next hfit =>
      refine State.fixturesSound.goodLane (h.onStrokes (h l).1 ?_ .inl)
      rw [Config.strokeQueueMax] at hfit
      simpa [Strokes.append] using hfit

theorem State.fixturesSound.stopStrokes {s : State} (h : s.fixturesSound) {l : LaneId} {rq : Request} :
    (handleStopStrokes l rq s).fixturesSound := by
  unfold handleStopStrokes
  extract_lets k t
  have ht : t.fixturesSound := h.onLane (h l).stop
  split
  · exact ht.goodLane
  · exact ht.of_fixtures (t.fixtures_onLane_same l _ rfl)

/-- R149: a lane on which strokes may start: its nest is seated, and no key is driven there. -/
def LaneState.strokesReady (L : LaneState) : Prop := L.nest.seated = true ∧ (L.strokes.keyA, L.strokes.keyB) = (false, false)

/-- R150: a pending start drives no key, and the lanes that it names are ready as before. -/
theorem State.fixturesSound.startLanes (o : Originator) (ls : List LaneId) {s : State} (h : s.fixturesSound)
    (hr : ∀ l ∈ ls, (s.lane l).strokesReady) : (s.startLanes o ls).fixturesSound := by
  unfold State.startLanes
  generalize startInstantOf s.timebase = instant
  generalize toStartInstant s.timebase = left
  induction ls generalizing s with
  | nil => exact h
  | cons l ls ih =>
    obtain ⟨hseated, hkeys⟩ := hr l List.mem_cons_self
    refine ih (s := (s.onLane l fun L => L.onStrokes (Strokes.startPending instant left)).clearCondition o l) ?_ fun k hk => ?_
    · have ht : (s.onLane l fun L => L.onStrokes (Strokes.startPending instant left)).fixturesSound :=
        h.onStrokes hkeys (h l).2.1 fun _ => .inr hseated
      exact ht.of_fixtures (State.fixtures_clearCondition ..)
    · rw [State.clearCondition, State.onLane_onLane, State.lane_onLane]
      split
      · exact hr k (List.mem_cons_of_mem _ hk)
      · exact hr k (List.mem_cons_of_mem _ hk)

/-- R149: the four tests leave the lanes that are ready. -/
theorem State.fixturesSound.startStrokes {s : State} (h : s.fixturesSound) {rq : Request} :
    (handleStartStrokes rq s).fixturesSound := by
  unfold handleStartStrokes
  dsimp only
  split
  · exact h.refuseDevice
  · split
    · exact State.fixturesSound.answer (h.of_fixtures (State.fixtures_foldl (fun t k => t.fixtures_clearAttention _ k) _ s))
    · split
      · exact h.answer
      · split
        · exact h.refuseDevice
        · next hidle =>
          split
          · exact h.refuseDevice
          · next hseated =>
            refine State.fixturesSound.answer (State.fixturesSound.startLanes _ _ h fun l hl => ?_)
            have hs := List.find?_eq_none.1 hidle l hl
            simp only [LaneState.strokesBusy, Bool.or_eq_true, not_or, bne_iff_ne, ne_eq, not_not] at hs
            refine ⟨by simpa using List.find?_eq_none.1 hseated l hl, ?_⟩
            rw [(h l).1, hs.1]
            rfl

/-- R81: LANE_RESET stops the strokes and leaves the state of the supply. -/
theorem State.fixturesSound.resetFixture {s : State} (h : s.fixturesSound) (l : LaneId) : (s.resetFixture l).fixturesSound := by
  have ht : (s.discardUpstream l).fixturesSound := h.of_fixtures (s.fixtures_discardUpstream l)
  exact ht.onLane (LaneState.fixtureSound.withSupply
    (u := { ((s.discardUpstream l).lane l).supply with active := .idle, staged := none, result := none }) (ht l).stop .inl)
theorem State.fixturesSound.laneReset {s : State} (h : s.fixturesSound) {l : LaneId} {rq : Request} :
    (handleLaneReset l rq s).fixturesSound := by
  have ht : ((s.resetSends l).linkLaneReset l).fixturesSound := h.of_fixtures (by simp)
  exact (ht.resetFixture l).goodLane

end Sys2Proof.Machine
end

section
/-! Every command keeps the fixtures sound, and so does every step (R131, R145, R146, R155, R159): most commands leave them, and
samples, strokes, nests and resets change them by the laws above. -/

namespace Sys2Proof.Machine

/-- A command that leaves the fixtures. -/
def LeavesFixtures (f : State → Answer) : Prop := ∀ s : State, ∃ t, f s = .next t ∧ t.fixtures = s.fixtures

/-- A command that keeps them sound. -/
def KeepsFixtures (f : State → Answer) : Prop := ∀ s : State, s.fixturesSound → ∃ t, f s = .next t ∧ t.fixturesSound

theorem LeavesFixtures.keeps {f : State → Answer} (h : LeavesFixtures f) : KeepsFixtures f := fun s hs => by
  obtain ⟨t, ht, he⟩ := h s
  exact ⟨t, ht, hs.of_fixtures he⟩

/-! ### Lines and attaches (R25 to R33) -/

theorem leavesFixtures_connectDetection (l : LaneId) : LeavesFixtures (execConnectDetection l) := fun s => ⟨_, rfl, by
  split <;> simp⟩
theorem leavesFixtures_disconnectDetection (l : LaneId) : LeavesFixtures (execDisconnectDetection l) := fun s => ⟨_, rfl, by
  split <;> simp⟩
theorem leavesFixtures_portResetEnd (l : LaneId) (b : Bool) : LeavesFixtures (execPortResetEnd l b) := fun s => ⟨_, rfl, by
  split <;> simp⟩
theorem leavesFixtures_enumerationTransferDone (l : LaneId) (r : EnumResult) :
    LeavesFixtures (execEnumerationTransferDone l r) := fun s => ⟨_, rfl, by
  split
  · dsimp only
    split <;> simp
  · rfl⟩
theorem leavesFixtures_attachRetryExpiry (l : LaneId) : LeavesFixtures (execAttachRetryExpiry l) := fun s => ⟨_, rfl, by
  split <;> simp⟩
theorem leavesFixtures_identityTransactionDone (l : LaneId) (r : IdentityResult) :
    LeavesFixtures (execIdentityTransactionDone l r) := fun s => ⟨_, rfl, by
  split
  · split <;> simp
  · rfl⟩
theorem leavesFixtures_identityReadTimeout (l : LaneId) : LeavesFixtures (execIdentityReadTimeout l) := fun s => ⟨_, rfl, by
  split <;> simp⟩
theorem leavesFixtures_attachTimerExpiry (l : LaneId) : LeavesFixtures (execAttachTimerExpiry l) := fun s => ⟨_, rfl, by
  split <;> simp⟩

/-! ### The engines (R36 to R43) -/

theorem leavesFixtures_sendStart (l : LaneId) : LeavesFixtures (execSendStart l) := fun s => ⟨_, rfl, by
  split
  · rfl
  · split
    · rw [State.fixtures_setOut, State.fixtures_onLane_same _ _ _ rfl]
    · rfl⟩
theorem leavesFixtures_outTransactionDone (l : LaneId) (r : OutResult) : LeavesFixtures (execOutTransactionDone l r) :=
  fun s => ⟨_, rfl, by
  split
  · cases r with
    | accepted => dsimp only; split <;> simp
    | nak => simp
    | stall => simp
    | transportError => exact s.fixtures_transportError 0 l fun t => by split <;> simp
  · rfl
  · rfl⟩
theorem leavesFixtures_sendTimerExpiry (l : LaneId) : LeavesFixtures (execSendTimerExpiry l) := fun s => ⟨_, rfl, by
  split
  · split <;> simp
  · rfl
  · rfl⟩
theorem leavesFixtures_retryWaitEnd (l : LaneId) : LeavesFixtures (execRetryWaitEnd l) := fun s => ⟨_, rfl, by
  split <;> simp⟩
theorem leavesFixtures_stallClearingDone (l : LaneId) (r : ClearResult) : LeavesFixtures (execStallClearingDone l r) :=
  fun s => ⟨_, rfl, by
  split
  · cases r with
    | cleared => simp
    | stall => simp
    | nak => rfl
    | transportError => exact s.fixtures_transportError _ l fun t => by simp
  · rfl⟩
theorem leavesFixtures_stallClearingRetry (l : LaneId) : LeavesFixtures (execStallClearingRetry l) := fun s => ⟨_, rfl, by
  split <;> simp⟩
theorem leavesFixtures_pollIssue (l : LaneId) : LeavesFixtures (execPollIssue l) := fun s => ⟨_, rfl, by
  split <;> simp⟩
theorem leavesFixtures_inTransactionDone (l : LaneId) (r : InResult) : LeavesFixtures (execInTransactionDone l r) :=
  fun s => ⟨_, rfl, by
  split
  · cases r with
    | data toggle bytes => dsimp only; split <;> simp
    | nak => dsimp only; split <;> simp
    | stall => simp
    | transportError => simp
  · rfl⟩
theorem leavesFixtures_pollNakTimeout (l : LaneId) : LeavesFixtures (execPollNakTimeout l) := fun s => ⟨_, rfl, by
  split
  · rw [State.fixtures_transportError _ 1 l fun t => t.fixtures_setIn _ l, State.fixtures_advance]
  · rfl
  · rfl⟩
theorem leavesFixtures_pollWaitEnd (l : LaneId) : LeavesFixtures (execPollWaitEnd l) := fun s => ⟨_, rfl, by
  split
  · simp
  · split <;> simp
  · rfl
  · rfl⟩

/-! ### The collector, the nest's input, the lamp, and the arbiter -/

theorem leavesFixtures_packTimerExpiry (l : LaneId) : LeavesFixtures (execPackTimerExpiry l) := fun s => ⟨_, rfl, by
  split <;> simp⟩
/-- R157: a raw input that moves leaves the debounced nest. -/
theorem leavesFixtures_nestInputChange (l : LaneId) (b : Bool) : LeavesFixtures (execNestInputChange l b) :=
  fun s => ⟨_, rfl, s.fixtures_onLane_same l _ rfl⟩
theorem leavesFixtures_activityTimerExpiry (l : LaneId) : LeavesFixtures (execActivityTimerExpiry l) := fun s => ⟨_, rfl, by
  split
  · rw [State.fixtures_onLane_any _ l (fun L => { L with activity := none }) fun _ => rfl, State.fixtures_advance]
  · rfl⟩
theorem leavesFixtures_pacingTimerExpiry (o : Originator) : LeavesFixtures (execPacingTimerExpiry o) := fun s => ⟨_, rfl, by
  split <;> simp⟩
theorem leavesFixtures_frameBuild : LeavesFixtures execFrameBuild := fun s => ⟨_, rfl, by
  split
  · split
    · next hf => rw [State.fixtures_placeFrame, State.fixtures_buildFrame hf]
    · rfl
  · rfl⟩
theorem keepsFixtures_inTransferDone : KeepsFixtures execInTransferDone := fun s h => ⟨_, rfl, by
  split
  · split
    · exact State.fixturesSound.transferred (s := { s with transmitting := s.staged, staged := none }) h _
    · exact h
  · exact h⟩

/-! ### Samples, strokes and nests -/

/-- A lane whose strokes run has a seated nest, however much time has passed. -/
theorem State.fixturesSound.seated_advance {s : State} (h : s.fixturesSound) {l : LaneId}
    (hc : (s.lane l).strokes.state.code = 1) (d : Nat) : ((s.advance d).lane l).nest.seated = true :=
  State.seated_of_fixtures (s.fixtures_advance d) ((h l).seated_of_run hc)
theorem State.fixturesSound.advance {s : State} (h : s.fixturesSound) (d : Nat) : (s.advance d).fixturesSound :=
  h.of_fixtures (s.fixtures_advance d)

theorem keepsFixtures_sampleEvent (l : LaneId) (v : Fin 4096) : KeepsFixtures (execSampleEvent l v) := fun s h => ⟨_, rfl, by
  split
  · next left _ => exact ((h.advance left).sample v.val l).of_fixtures (State.fixtures_onLane_any _ l _ fun _ => rfl)
  · exact h⟩
theorem keepsFixtures_startInstant (l : LaneId) : KeepsFixtures (execStartInstant l) := fun s h => ⟨_, rfl, by
  split
  · next left hs => exact (h.advance left).startStep (h.seated_advance (by rw [hs]; rfl) left)
  · exact h⟩
theorem keepsFixtures_stepEnd (l : LaneId) : KeepsFixtures (execStepEnd l) := fun s h => ⟨_, rfl, by
  split
  · next current left hs => exact (h.advance left).afterStep current (h.seated_advance (by rw [hs]; rfl) left)
  · exact h⟩
theorem keepsFixtures_releaseGapEnd (l : LaneId) : KeepsFixtures (execReleaseGapEnd l) := fun s h => ⟨_, rfl, by
  split
  · next left hs => exact (h.advance left).startStep (h.seated_advance (by rw [hs]; rfl) left)
  · exact h⟩
theorem keepsFixtures_retractEnd (l : LaneId) : KeepsFixtures (execRetractEnd l) := fun s h => ⟨_, rfl, by
  split
  · next left hs =>
    have hnone : ((s.advance left).fixtures l).named = (false, false) := by
      rw [State.fixtures_advance]
      exact congrArg StrokeState.keys hs
    exact ((h.advance left).retracted hnone).of_fixtures (State.fixtures_foldl (fun t w => t.fixtures_answerStop l w) _ _)
  · exact h⟩
theorem keepsFixtures_nestQualificationEnd (l : LaneId) : KeepsFixtures (execNestQualificationEnd l) := fun s h => ⟨_, rfl, by
  split
  · next left _ =>
    obtain ⟨hseated, hemptied⟩ := (h.advance left).nestSettles l
    dsimp only
    split
    · next hraw => exact hseated (by rw [State.lane_advance]; exact hraw)
    · exact hemptied
  · exact h⟩

/-! ### The port, and the OUT side -/

theorem keepsFixtures_deconfigure : KeepsFixtures execDeconfigure := fun s h => ⟨_, rfl, by
  split
  · exact h.leaveConfigured _
  · exact h⟩
theorem keepsFixtures_busReset : KeepsFixtures execBusReset := fun s h => ⟨_, rfl, by
  split
  · exact h
  · exact h
  · exact State.fixturesSound.leaveConfigured (s := { s with suspended := false }) h _⟩
theorem keepsFixtures_vbusLoss : KeepsFixtures execVbusLoss := fun s h => ⟨_, rfl, by
  dsimp only
  split
  · exact h
  · exact h
  · exact State.fixturesSound.leaveConfigured (s := { s with vbus := false, suspended := false }) h _⟩
theorem keepsFixtures_hardResetRelease : KeepsFixtures execHardResetRelease := fun s h => ⟨_, rfl, by
  split
  · exact State.fixturesSound_deviceReset _ true
  · exact h⟩
theorem leavesFixtures_setConfiguration : LeavesFixtures execSetConfiguration := fun s => ⟨_, rfl, by split <;> rfl⟩
theorem leavesFixtures_vbusPresent : LeavesFixtures execVbusPresent := fun s => ⟨_, rfl, by split <;> rfl⟩
theorem leavesFixtures_suspend : LeavesFixtures execSuspend := fun s => ⟨_, rfl, by split <;> rfl⟩
theorem leavesFixtures_outDataPacket (bytes : List Byte) : LeavesFixtures (execOutDataPacket bytes) := fun s => ⟨_, rfl, by
  split <;> rfl⟩
theorem leavesFixtures_frameDiscarded (bytes : List Byte) : LeavesFixtures (execFrameDiscarded bytes) := fun s => ⟨_, rfl, by
  extract_lets t
  have ht : t.fixtures = s.fixtures := by
    unfold t
    split_ifs <;> rfl
  split
  · exact ht
  · rfl⟩
theorem keepsFixtures_unknownRequest (o : Originator) (lane code tag : Byte) (body : List Byte) :
    KeepsFixtures (execUnknownRequest o lane code tag body) := fun s h => ⟨_, rfl, by
  split
  · exact h
  · exact h.arrive fun t ht => ht.of_fixtures (t.fixtures_refuseForm _ _)⟩

/-! ### Every command -/

/-- Every command of the table keeps the fixtures sound: a request by its checks and its block's handling, and any other command
by its own law. -/
theorem exec_keepsFixtures (i : Instr) : KeepsFixtures (exec i) := by
  intro s h
  cases i with
  | frameDiscarded bytes => exact (leavesFixtures_frameDiscarded bytes).keeps s h
  | unknownRequest o lane code tag body => exact keepsFixtures_unknownRequest o lane code tag body s h
  | outResume => exact ⟨_, rfl, h.of_fixtures s.fixtures_pump⟩
  | setConfiguration => exact leavesFixtures_setConfiguration.keeps s h
  | deconfigure => exact keepsFixtures_deconfigure s h
  | busReset => exact keepsFixtures_busReset s h
  | vbusLoss => exact keepsFixtures_vbusLoss s h
  | vbusPresent => exact leavesFixtures_vbusPresent.keeps s h
  | suspend => exact leavesFixtures_suspend.keeps s h
  | resume => exact ⟨_, rfl, h⟩
  | hardReset => exact ⟨_, rfl, State.fixturesSound_deviceReset _ false⟩
  | frameBuild => exact leavesFixtures_frameBuild.keeps s h
  | inTransferDone => exact keepsFixtures_inTransferDone s h
  | pacingTimerExpiry o => exact (leavesFixtures_pacingTimerExpiry o).keeps s h
  | deviceStatus o lane tag body => exact ⟨_, rfl, h.deviceRequest fun _ ht => ht.answer⟩
  | deviceReset o lane tag body => exact ⟨_, rfl, h.deviceRequest fun _ ht => ht⟩
  | configurePool o lane tag body =>
    exact ⟨_, rfl, h.deviceRequest fun t ht => ht.of_fixtures (fixtures_configurePool t _)⟩
  | setClassActions o lane tag body =>
    exact ⟨_, rfl, h.deviceRequest fun t ht => ht.of_fixtures (fixtures_setClassActions t _)⟩
  | readClassActions o lane tag body => exact ⟨_, rfl, h.deviceRequest fun _ ht => ht.answer⟩
  | openNotices o lane tag body => exact ⟨_, rfl, h.deviceRequest fun t ht => ht.of_fixtures (fixtures_openNotices t _)⟩
  | closeNotices o lane tag body => exact ⟨_, rfl, h.deviceRequest fun t ht => ht.of_fixtures (fixtures_closeNotices t _)⟩
  | setPacing o lane tag body => exact ⟨_, rfl, h.deviceRequest fun _ ht => ht⟩
  | startStrokes o lane tag body => exact ⟨_, rfl, h.deviceRequest fun _ ht => ht.startStrokes⟩
  | deviceSense o lane tag body => exact ⟨_, rfl, h.deviceRequest fun _ ht => ht⟩
  | claimLane o lane tag body => exact ⟨_, rfl, h.laneRequest fun l t ht => ht.of_fixtures (fixtures_claimLane t l _)⟩
  | yieldLane o lane tag body => exact ⟨_, rfl, h.laneRequest fun l t ht => ht.of_fixtures (fixtures_yieldLane t l _)⟩
  | breakClaim o lane tag body => exact ⟨_, rfl, h.laneRequest fun l t ht => ht.of_fixtures (fixtures_breakClaim t l _)⟩
  | laneStatus o lane tag body => exact ⟨_, rfl, h.laneRequest fun _ _ ht => ht.answer⟩
  | laneSense o lane tag body => exact ⟨_, rfl, h.laneRequest fun l t ht => ht.of_fixtures (fixtures_laneSense t l _)⟩
  | laneIdentity o lane tag body => exact ⟨_, rfl, h.laneRequest fun _ _ ht => ht.answer⟩
  | setLaneOptions o lane tag body =>
    exact ⟨_, rfl, h.laneRequest fun l t ht => ht.of_fixtures (fixtures_setLaneOptions t l _)⟩
  | laneReset o lane tag body => exact ⟨_, rfl, h.laneRequest fun _ _ ht => ht.laneReset⟩
  | sendPacket o lane tag body => exact ⟨_, rfl, h.laneRequest fun l t ht => ht.of_fixtures (fixtures_sendPacket t l _)⟩
  | resumeSend o lane tag body => exact ⟨_, rfl, h.laneRequest fun l t ht => ht.of_fixtures (fixtures_resumeSend t l _)⟩
  | flushLane o lane tag body => exact ⟨_, rfl, h.laneRequest fun l t ht => ht.of_fixtures (fixtures_flushLane t l _)⟩
  | linkReset o lane tag body => exact ⟨_, rfl, h.laneRequest fun l t ht => ht.of_fixtures (fixtures_linkReset t l _)⟩
  | setLink o lane tag body => exact ⟨_, rfl, h.laneRequest fun l t ht => ht.of_fixtures (fixtures_setLink t l _)⟩
  | supply o lane tag body => exact ⟨_, rfl, h.laneRequest fun _ _ ht => ht.supply⟩
  | setTrip o lane tag body => exact ⟨_, rfl, h.laneRequest fun l t ht => ht.of_fixtures (fixtures_setTrip t l _)⟩
  | armWindow o lane tag body => exact ⟨_, rfl, h.laneRequest fun l t ht => ht.of_fixtures (fixtures_armWindow t l _)⟩
  | cancelWindow o lane tag body => exact ⟨_, rfl, h.laneRequest fun l t ht => ht.of_fixtures (fixtures_cancelWindow t l _)⟩
  | readWindow o lane tag body => exact ⟨_, rfl, h.laneRequest fun _ _ ht => ht.answer⟩
  | queueStrokes o lane tag body => exact ⟨_, rfl, h.laneRequest fun _ _ ht => ht.queueStrokes⟩
  | stopStrokes o lane tag body => exact ⟨_, rfl, h.laneRequest fun _ _ ht => ht.stopStrokes⟩
  | setStrokeTiming o lane tag body =>
    exact ⟨_, rfl, h.laneRequest fun l t ht => ht.of_fixtures (fixtures_setStrokeTiming t l _)⟩
  | setLamp o lane tag body => exact ⟨_, rfl, h.laneRequest fun l t ht => ht.of_fixtures (fixtures_setLamp t l _)⟩
  | keepPhone o lane tag body => exact ⟨_, rfl, h.laneRequest fun l t ht => ht.of_fixtures (fixtures_keepPhone t l _)⟩
  | lineStateChange l shows => exact ⟨_, rfl, h.of_fixtures (s.fixtures_onLink l _)⟩
  | connectDetection l => exact (leavesFixtures_connectDetection l).keeps s h
  | disconnectDetection l => exact (leavesFixtures_disconnectDetection l).keeps s h
  | portResetEnd l b => exact (leavesFixtures_portResetEnd l b).keeps s h
  | enumerationTransferDone l r => exact (leavesFixtures_enumerationTransferDone l r).keeps s h
  | attachRetryExpiry l => exact (leavesFixtures_attachRetryExpiry l).keeps s h
  | identityTransactionDone l r => exact (leavesFixtures_identityTransactionDone l r).keeps s h
  | identityReadTimeout l => exact (leavesFixtures_identityReadTimeout l).keeps s h
  | attachTimerExpiry l => exact (leavesFixtures_attachTimerExpiry l).keeps s h
  | sendStart l => exact (leavesFixtures_sendStart l).keeps s h
  | outTransactionDone l r => exact (leavesFixtures_outTransactionDone l r).keeps s h
  | sendTimerExpiry l => exact (leavesFixtures_sendTimerExpiry l).keeps s h
  | retryWaitEnd l => exact (leavesFixtures_retryWaitEnd l).keeps s h
  | stallClearingDone l r => exact (leavesFixtures_stallClearingDone l r).keeps s h
  | stallClearingRetry l => exact (leavesFixtures_stallClearingRetry l).keeps s h
  | pollIssue l => exact (leavesFixtures_pollIssue l).keeps s h
  | inTransactionDone l r => exact (leavesFixtures_inTransactionDone l r).keeps s h
  | pollNakTimeout l => exact (leavesFixtures_pollNakTimeout l).keeps s h
  | pollWaitEnd l => exact (leavesFixtures_pollWaitEnd l).keeps s h
  | packTimerExpiry l => exact (leavesFixtures_packTimerExpiry l).keeps s h
  | sampleEvent l v => exact keepsFixtures_sampleEvent l v s h
  | startInstant l => exact keepsFixtures_startInstant l s h
  | stepEnd l => exact keepsFixtures_stepEnd l s h
  | releaseGapEnd l => exact keepsFixtures_releaseGapEnd l s h
  | retractEnd l => exact keepsFixtures_retractEnd l s h
  | nestInputChange l b => exact (leavesFixtures_nestInputChange l b).keeps s h
  | nestQualificationEnd l => exact keepsFixtures_nestQualificationEnd l s h
  | activityTimerExpiry l => exact (leavesFixtures_activityTimerExpiry l).keeps s h
  | hardResetRelease => exact keepsFixtures_hardResetRelease s h
  | outDataPacket bytes => exact (leavesFixtures_outDataPacket bytes).keeps s h

/-- Settles O57: the front command keeps every lane's fixture sound, and so does an idle step. -/
theorem fixturesStaySound : Obligations.FixturesStaySound := by
  intro s t h ht
  unfold step at ht
  split at ht
  · obtain rfl := Host.Outcome.next.inj ht
    unfold State.idle
    split
    · exact h
    · exact State.fixturesSound.advance h 1
  · next c rest _ =>
    obtain ⟨u, hu, hs⟩ := exec_keepsFixtures c { s with pending := rest } h
    obtain rfl := Host.Outcome.next.inj (hu.symm.trans ht)
    exact hs

end Sys2Proof.Machine
end

section
/-! The requests of the supply monitor: SUPPLY by action and supply state (R130), SET_TRIP (R135), ARM_WINDOW (R137) and
CANCEL_WINDOW (R141). -/

namespace Sys2Proof.Machine

/-! ### Changes of a lane's supply -/

/-- Two changes of a lane that agree on what the lane holds are one. -/
theorem State.onLane_congr {s : State} {l : LaneId} {f g : LaneState → LaneState} (h : f (s.lane l) = g (s.lane l)) :
    s.onLane l f = s.onLane l g := by rw [State.onLane_eq_setLane, h, ← State.onLane_eq_setLane]

/-- A change of a lane's supply, by the value it gives to the supply that the lane has. -/
theorem State.onSupply_eq {s : State} {l : LaneId} {u : Supply} (h : (s.lane l).supply = u) (f : Supply → Supply) :
    (s.onLane l fun L => L.onSupply f) = s.onLane l fun L => { L with supply := f u } :=
  State.onLane_congr (by rw [LaneState.onSupply, h])

/-- R138: a window fires where it is ARMED on the trigger that is met. -/
theorem ActiveWindow.fire_trigger (k : Trigger) (w : ActiveWindow) : w.fire (fun p => p.trigger == k) =
    match w with
    | .armed p => if p.trigger = k then p.start else .armed p
    | w => w := by
  cases w with
  | armed p => simp only [ActiveWindow.fire, beq_iff_eq]
  | idle | delaying | measuring | done | aborted => rfl

/-! ### SUPPLY (R130) -/

theorem Source.ofCode_of_one_lt {n : Nat} (h : 1 < n) : Source.ofCode n = none := by
  match n, h with
  | n + 2, _ => rfl

/-- A byte up to 1 names a source, whose code it is. -/
theorem Source.ofCode_byte {b : Byte} (h : b.toNat ≤ 1) :
    Source.ofCode b.toNat = some (if b = 0 then .bus else .battery) ∧
      le8 (if b = 0 then Source.bus else .battery).code = [b] := by
  have hb : b = 0 ∨ b = 1 := by bv_omega
  rcases hb with rfl | rfl <;> exact ⟨rfl, rfl⟩

/-- A selection that leaves the counts alone: the supply is not ON, or its source stays. -/
theorem Supply.select_kept {u : Supply} {src : Source} (h : u.state ≠ .on ∨ u.source = src) (mv : Nat) :
    u.select src mv = { u with source := src, millivolts := mv } :=
  if_neg (by tauto)
/-- A change of source while ON. -/
theorem Supply.select_changed {u : Supply} {src : Source} (hon : u.state = .on) (hs : u.source ≠ src) (mv : Nat) :
    u.select src mv =
      { u with source := src, millivolts := mv, blankCount := 0, blankPassed := false, tripRun := 0 } :=
  if_pos ⟨hon, hs⟩

/-! What each action makes of a supply. -/

theorem Supply.act_refused {u : Supply} {seated : Bool} (h : u.state = .tripped ∨ (u.state ≠ .on ∧ seated = false)) :
    u.act 1 seated = none := by
  cases hs : u.state with
  | off =>
    have he : seated = false := (h.resolve_left (by simp [hs])).2
    simp [Supply.act, hs, he]
  | on => exact absurd hs (by rcases h with h | h <;> simp [h])
  | tripped => simp only [Supply.act, hs]

theorem Supply.act_turnOn {u : Supply} (h : u.state = .off) : u.act 1 true = some u.turnOn := by
  simp only [Supply.act, h, if_true]

theorem Supply.act_stays_on {u : Supply} (h : u.state = .on) (seated : Bool) {action : Nat} (ha : action = 1 ∨ action = 2) :
    u.act action seated = some u := by
  rcases ha with rfl | rfl <;> simp only [Supply.act, h]

theorem Supply.act_off_of_on {u : Supply} (h : u.state = .on) (seated : Bool) :
    u.act 0 seated = some { u.zeroCounts with state := .off } := by simp only [Supply.act, h]

theorem Supply.act_off_of_not_on {u : Supply} (h : u.state ≠ .on) (seated : Bool) : u.act 0 seated = some u := by
  cases hs : u.state with
  | off | tripped => simp only [Supply.act, hs]
  | on => exact absurd hs h

theorem Supply.act_clear_of_not_on {u : Supply} (h : u.state ≠ .on) (seated : Bool) :
    u.act 2 seated = some { u with state := .off } := by
  cases hs : u.state with
  | off =>
    obtain ⟨_⟩ := u
    subst hs
    rfl
  | tripped => simp only [Supply.act, hs]
  | on => exact absurd hs h

/-! The three ends of the request. -/

section
variable {s : State} {l : LaneId} {o : Originator} {code tag action source v0 v1 : Byte} {src : Source}

theorem handleSupply_badField (h : 2 < action.toNat ∨ 1 < source.toNat) :
    handleSupply l ⟨o, laneByte l, code, tag, [action, source, v0, v1]⟩ s = s.checkReply .badField code tag o l := by
  by_cases ha : 2 < action.toNat
  · exact if_pos ha
  · refine (if_neg ha).trans ?_
    simp only [byteAt, List.getD_cons_succ, List.getD_cons_zero, Source.ofCode_of_one_lt (h.resolve_left ha)]
    rfl

theorem handleSupply_done {w : Supply} (ha : ¬ 2 < action.toNat) (hs : Source.ofCode source.toNat = some src)
    (h : ((s.lane l).supply.select src (voltageOf (v0.toNat + 256 * v1.toNat))).act action.toNat (s.lane l).nest.seated =
      some w) :
    handleSupply l ⟨o, laneByte l, code, tag, [action, source, v0, v1]⟩ s =
      (s.onLane l fun L => { L with supply := w }).goodReply code tag o l (supplyBody w) := by
  simp only [handleSupply, byteAt, u16At, List.getD_cons_succ, List.getD_cons_zero, if_neg ha, hs, h]
  rfl

theorem handleSupply_refused (ha : ¬ 2 < action.toNat) (hs : Source.ofCode source.toNat = some src)
    (h : ((s.lane l).supply.select src (voltageOf (v0.toNat + 256 * v1.toNat))).act action.toNat (s.lane l).nest.seated =
      none) :
    handleSupply l ⟨o, laneByte l, code, tag, [action, source, v0, v1]⟩ s =
      s.checkReply (if (s.lane l).nest.seated then .tripLatched else .nestEmpty none) code tag o l := by
  simp only [handleSupply, byteAt, u16At, List.getD_cons_succ, List.getD_cons_zero, if_neg ha, hs, h]
  split <;> rfl

end

/-- Settles O34: the request ends as `Supply.act` says of the supply with its selection stored. -/
theorem supplyByActionAndState : Obligations.SupplyByActionAndState := by
  rintro s o l tag action source v0 v1 u hs hp rfl
  intro i seated mv src gives
  have ha : exec i s = .next (handleSupply l ⟨o, laneByte l, 0x30, tag, [action, source, v0, v1]⟩ s) :=
    congrArg Host.Outcome.next (arrive_laneRequest hs hp oneReply_supply 0x30 tag _ rfl (by simp))
  refine ⟨fun hb => ha.trans (congrArg _ (handleSupply_badField hb)), fun hsrc => ?_⟩
  obtain ⟨hcode, hbyte⟩ := Source.ofCode_byte hsrc
  have refused (h1 : action = 1) (h : ((s.lane l).supply.select src mv).act 1 seated = none) :
      exec i s = .next (s.checkReply (if seated then .tripLatched else .nestEmpty none) 0x30 tag o l) := by
    subst h1
    exact ha.trans (congrArg _ (handleSupply_refused (action := 1) (by decide) hcode h))
  have done (n : Nat) (hn : ¬ 2 < n) (hact : action.toNat = n) (w : Supply)
      (h : ((s.lane l).supply.select src mv).act n seated = some { w with source := src, millivolts := mv }) : gives w := by
    subst hact
    refine (ha.trans (congrArg _ (handleSupply_done hn hcode h))).trans ?_
    simp only [supplyBody, src, hbyte]
  have hsel : ((s.lane l).supply.select src mv).state = (s.lane l).supply.state := Supply.select_state _ _ _
  have acts (h : action = 1 ∨ action = 2) : (action.toNat = 1 ∨ action.toNat = 2) ∧ ¬ 2 < action.toNat := by
    rcases h with rfl | rfl <;> decide
  refine ⟨fun h1 he hu => ?_, fun h1 he hu => ?_, fun h1 he hu => ?_, fun h12 hu => ⟨fun hk => ?_, fun hk => ?_⟩,
    fun h0 hu => ?_, fun h0 hu => ?_, fun h2 hu => ?_⟩
  · rw [refused h1 (Supply.act_refused (.inr ⟨hsel ▸ hu, he⟩)), if_neg (by simp [he])]
  · rw [refused h1 (Supply.act_refused (.inl (hsel.trans hu))), if_pos he]
  · refine done 1 (by decide) (by rw [h1]; rfl) _ ?_
    rw [he, Supply.act_turnOn (hsel.trans hu), Supply.select_kept (.inl (by simp [hu])), Supply.turnOn, Supply.fireOn]
    exact congrArg (fun w => some (⟨.on, src, mv, _, _, _, 0, false, 0, w, _, _, _⟩ : Supply))
      (ActiveWindow.fire_trigger .supplyOn (s.lane l).supply.active)
  · exact done _ (acts h12).2 rfl _ ((Supply.act_stays_on (hsel.trans hu) _ (acts h12).1).trans
      (congrArg some (Supply.select_kept (.inr hk) mv)))
  · exact done _ (acts h12).2 rfl _ ((Supply.act_stays_on (hsel.trans hu) _ (acts h12).1).trans
      (congrArg some (Supply.select_changed hu hk mv)))
  · refine done 0 (by decide) (by rw [h0]; rfl) _ ((Supply.act_off_of_on (hsel.trans hu) _).trans ?_)
    unfold Supply.select
    split <;> rfl
  · exact done 0 (by decide) (by rw [h0]; rfl) _
      ((Supply.act_off_of_not_on (hsel ▸ hu) _).trans (congrArg some (Supply.select_kept (.inl hu) mv)))
  · exact done 2 (by decide) (by rw [h2]; rfl) _ ((Supply.act_clear_of_not_on (hsel ▸ hu) _).trans
      (congrArg (fun w : Supply => some { w with state := .off }) (Supply.select_kept (.inl hu) mv)))

/-! ### SET_TRIP, ARM_WINDOW and CANCEL_WINDOW (R135, R137, R141) -/

/-- R135: a supply has passed its blanking where it is ON and no sample of it is blanked. -/
theorem Supply.setTrip_eq (t k b : Nat) (u : Supply) : u.setTrip t k b = { u with
    tripLevel := t, tripCount := k, blanking := b, tripRun := 0
    blankPassed := decide (u.state = .on ∧ (u.blankPassed = true ∨ u.blanking ≤ u.blankCount)) } := by
  have h : (u.state == .on && !u.blanked) = decide (u.state = .on ∧ (u.blankPassed = true ∨ u.blanking ≤ u.blankCount)) := by
    rw [Bool.eq_iff_iff, Bool.and_eq_true, Bool.not_eq_true', ← Bool.not_eq_true, Supply.blanked_iff, not_not, beq_iff_eq,
      decide_eq_true_iff]
  rw [Supply.setTrip, h]

theorem ActiveWindow.atRest_iff (w : ActiveWindow) : w.atRest = true ↔ w.resting := by
  cases w <;> simp [ActiveWindow.atRest, ActiveWindow.resting]

theorem Trigger.ofCode_of_three_lt {n : Nat} (h : 3 < n) : Trigger.ofCode n = none := by
  match n, h with
  | n + 4, _ => rfl

theorem Trigger.ofCode_code (t : Trigger) : Trigger.ofCode t.code = some t := by cases t <;> rfl

/-- The edge byte of a window, read as a flag and written again. -/
theorem leFlag_edge {b : Byte} (h : b.toNat ≤ 1) : leFlag (!(b == 0)) = [b] := by
  have hb : b = 0 ∨ b = 1 := by bv_omega
  rcases hb with rfl | rfl <;> rfl

section
variable {trig k d0 d1 n0 n1 c0 c1 edge : Byte}

theorem windowParams_badField (h : 3 < trig.toNat ∨ 1 < edge.toNat) :
    windowParams [trig, k, d0, d1, n0, n1, c0, c1, edge] = none := by
  show (match Trigger.ofCode trig.toNat with | none => none | some _ => if 1 < edge.toNat then none else some _) = none
  rcases h with h | h
  · rw [Trigger.ofCode_of_three_lt h]
  · split
    · rfl
    · exact if_pos h

theorem windowParams_eq {trigger : Trigger} (ht : trigger.code = trig.toNat) (he : edge.toNat ≤ 1) :
    windowParams [trig, k, d0, d1, n0, n1, c0, c1, edge] = some
      { trigger := trigger, step := if trigger = .strokeStep then max 1 (min k.toNat 16) else 0
        delay := d0.toNat + 256 * d1.toNat, length := max 1 (min (n0.toNat + 256 * n1.toNat) 4096)
        level := min (c0.toNat + 256 * c1.toNat) 4095, rise := edge == 0 } := by
  have hc : Trigger.ofCode trig.toNat = some trigger := ht ▸ trigger.ofCode_code
  have hr : (edge.toNat == 0) = (edge == 0) := by
    rw [Bool.eq_iff_iff, beq_iff_eq, beq_iff_eq]
    bv_omega
  simp only [windowParams, byteAt, u16At, List.getD_cons_succ, List.getD_cons_zero, hc, if_neg (Nat.not_lt.2 he), clamp,
    Nat.zero_max, hr]

end

/-- Settles O35: each of the three requests is one change of the lane's supply, or a refusal. -/
theorem tripAndWindowRequests : Obligations.TripAndWindowRequests := by
  intro s o l tag u hs hp hu setting
  have hset (f : Supply → Supply) : (s.onLane l fun L => L.onSupply f) = setting (f u) := State.onSupply_eq hu f
  refine ⟨fun t0 t1 k b => ?_, ?_, fun trig k d0 d1 n0 n1 c0 c1 edge => ?_⟩
  · intro t n
    have ha : exec (.setTrip o (laneByte l) tag [t0, t1, k, b]) s =
        .next (handleSetTrip l ⟨o, laneByte l, 0x31, tag, [t0, t1, k, b]⟩ s) :=
      congrArg Host.Outcome.next (arrive_laneRequest hs hp oneReply_setTrip 0x31 tag _ rfl (by simp))
    rw [ha, handleSetTrip, hset, Supply.setTrip_eq, State.goodLane_eq _ _ _ _ rfl]
    simp only [byteAt, u16At, List.getD_cons_succ, List.getD_cons_zero, clamp, Nat.zero_max, le8_toNat]
    rfl
  · have ha : exec (.cancelWindow o (laneByte l) tag []) s = .next (handleCancelWindow l ⟨o, laneByte l, 0x33, tag, []⟩ s) :=
      congrArg Host.Outcome.next (arrive_laneRequest hs hp oneReply_cancelWindow 0x33 tag _ rfl (by simp))
    rw [ha, handleCancelWindow, hset, hu, State.goodLane_eq _ _ _ _ rfl]
  · intro i
    have ha : exec i s = .next (handleArmWindow l ⟨o, laneByte l, 0x32, tag, [trig, k, d0, d1, n0, n1, c0, c1, edge]⟩ s) :=
      congrArg Host.Outcome.next (arrive_laneRequest hs hp oneReply_armWindow 0x32 tag _ rfl (by simp))
    refine ⟨fun hb => ?_, fun trigger ht he => ?_⟩
    · rw [ha, handleArmWindow, windowParams_badField hb]
      rfl
    intro p applied
    have hw : windowBytes p = applied := by
      simp only [windowBytes, p, applied, ht, le8_toNat, le16_bytes, leFlag_edge he]
    have hr : (s.lane l).supply.active.atRest = true ↔ u.active.resting := hu ▸ ActiveWindow.atRest_iff _
    simp only [ha, handleArmWindow, windowParams_eq ht he]
    refine ⟨fun h => ?_, fun h hn => ?_, fun h hn => ?_⟩
    · rw [if_pos (hr.2 h), hset, ← hw]
      rfl
    · rw [if_neg (mt hr.1 h), if_pos (hu ▸ hn), hset, ← hw]
      rfl
    · rw [if_neg (mt hr.1 h), if_neg (hu ▸ hn)]
      rfl

end Sys2Proof.Machine
end

section
/-! A sample of a lane (R132): the window that takes it (R138 to R140), and the trip logic (R133, R134). -/

namespace Sys2Proof.Machine

/-! ### A sample of the window (R138, R139) -/

/-- A window that takes no sample and that a trip leaves alone. -/
theorem State.windowSample_unmeasured (s : State) (v : Nat) (l : LaneId)
    (h : (s.lane l).supply.active.resting ∨ ∃ p, (s.lane l).supply.active = .armed p) : s.windowSample v l = s := by
  unfold State.windowSample
  rcases h with (h | ⟨p, h⟩ | ⟨p, h⟩) | ⟨p, h⟩ <;> rw [h]

/-- R138: the figures that a sample gives, with the capture that it makes. -/
theorem Figures.take_eq (p : WindowParams) (v : Nat) (f : Figures) : f.take p v =
    ⟨f.samples + 1, f.sum + v, some (min v (f.minimum.getD v)), some (max v (f.maximum.getD v)), (f.take p v).capture⟩ := by
  cases hn : f.minimum <;> cases hx : f.maximum <;>
    simp [Figures.take, minWith, maxWith, hn, hx, Nat.min_comm, Nat.max_comm]

/-- R136: the edge of a window that captures on one. -/
theorem WindowParams.meetsEdge_iff (p : WindowParams) (v : Nat) :
    p.meetsEdge v = true ↔ p.level ≠ 0 ∧ ((p.rise = true ∧ p.level ≤ v) ∨ (p.rise = false ∧ v ≤ p.level)) := by
  cases hr : p.rise <;> simp [WindowParams.meetsEdge, hr]

/-- R139: the event of a window that ends, before the other effects as well as after them. -/
theorem State.endWindow_eq (s : State) (b : Bool) (p : WindowParams) (f : Figures) (l : LaneId) :
    s.endWindow b p f l = (s.offerLane .windowDone l).onLane l fun L => L.onSupply (Supply.endWindow b p f s.timebase) :=
  State.offerLane_setLane s .windowDone l _ rfl

/-! ### A sample of the trip logic (R133, R134) -/

section
variable {u : Supply} {v : Nat}

theorem Supply.judge_of_not_on (h : u.state ≠ .on) : u.judge v = (u, false) := if_pos h

theorem Supply.judge_blanked (h : u.state = .on) (hb : u.blanked = true) :
    u.judge v = ({ u with blankCount := u.blankCount + 1 }, false) := by
  simp only [Supply.judge, h, ne_eq, not_true_eq_false, if_false, hb, if_true]

theorem Supply.judge_within (h : u.state = .on) (hb : ¬ u.blanked = true) (hv : u.tripLevel = 0 ∨ v ≤ u.tripLevel) :
    u.judge v = ({ u with tripRun := 0 }, false) := by
  rw [Supply.judge, if_neg (not_not.2 h), if_neg hb]
  split
  · rfl
  · next h0 => exact if_pos (hv.resolve_left h0)

theorem Supply.judge_over (h : u.state = .on) (hb : ¬ u.blanked = true) (h0 : u.tripLevel ≠ 0) (hv : u.tripLevel < v) :
    u.judge v = ({ u with tripRun := u.tripRun + 1 }, decide (u.tripCount ≤ u.tripRun + 1)) := by
  rw [Supply.judge, if_neg (not_not.2 h), if_neg hb, if_neg h0, if_neg (Nat.not_le.2 hv)]

end

section
variable {s : State} {l : LaneId} {v : Nat} {u w : Supply}

theorem State.tripSample_counted (hu : (s.lane l).supply = u) (h : u.judge v = (w, false)) :
    s.tripSample v l = s.onLane l fun L => { L with supply := w } := by
  rw [State.tripSample, hu, h, if_neg Bool.false_ne_true, State.onSupply_eq hu, h]

theorem State.tripSample_trips (hu : (s.lane l).supply = u) (h : u.judge v = (w, true)) :
    s.tripSample v l = (s.onLane l fun L => { L with supply := w }).trip v l := by
  rw [State.tripSample, hu, h, if_pos rfl, State.onSupply_eq hu, h]

end

/-! R140: what a trip does to the window. -/

section
variable {s : State} {l : LaneId} {p : WindowParams}

theorem State.abortOnTrip_delaying {k : Nat} (h : (s.lane l).supply.active = .delaying p k) :
    s.abortOnTrip l = s.endWindow false p ⟨0, 0, none, none, none⟩ l := by
  simp only [State.abortOnTrip, h]
  rfl
theorem State.abortOnTrip_measuring {f : Figures} (h : (s.lane l).supply.active = .measuring p f) :
    s.abortOnTrip l = s.endWindow false p f l := by simp only [State.abortOnTrip, h]
theorem State.abortOnTrip_unmeasured (h : (s.lane l).supply.active.resting ∨ ∃ p, (s.lane l).supply.active = .armed p) :
    s.abortOnTrip l = s := by
  unfold State.abortOnTrip
  rcases h with (h | ⟨p, h⟩ | ⟨p, h⟩) | ⟨p, h⟩ <;> rw [h]

end

/-! ### The sample event (R132) -/

/-- R132: the trigger NOW, on a lane. -/
theorem State.fireNow_eq (s : State) (l : LaneId) : (s.onLane l fun L => L.onSupply (Supply.fireOn hitsNow)) =
    s.onLane l fun L => { L with supply := { L.supply with
      active := match L.supply.active with
        | .armed p => if p.trigger = .now then p.start else .armed p
        | w => w } } :=
  congrArg (s.onLane l) (funext fun L => congrArg (fun w => { L with supply := { L.supply with active := w } })
    (ActiveWindow.fire_trigger .now L.supply.active))

/-- R132: the sample event of a lane whose sample is due. -/
theorem execSampleEvent_eq (s : State) (l : LaneId) (v : Fin 4096) (left : Nat) (h : (s.lane l).supply.nextSample = some left) :
    exec (.sampleEvent l v) s = .next (((s.advance left).sample v.val l).onLane l fun L =>
      { L with supply := { L.supply with nextSample := some (toNextSample (s.advance left).timebase) } }) := by
  simp only [exec, execSampleEvent, h]
  rfl

/-- Settles O50: the event is the window's sample and then the trip logic's, each by the state that it finds. -/
theorem sampleServesWindowThenTrip : Obligations.SampleServesWindowThenTrip := by
  refine ⟨fun p => ⟨fun h => if_pos h, fun h => if_neg (Nat.pos_iff_ne_zero.1 h)⟩, fun s l v left hn => ?_,
    fun s l v => ?_, fun s l p f b => s.endWindow_eq b p f l, fun s l v u hu => ?_⟩
  · rw [execSampleEvent_eq s l v left hn, State.sample, State.fireNow_eq]
    rfl
  · intro active
    have hactive (w : ActiveWindow) : (s.onLane l fun L => L.onSupply fun u => { u with active := w }) = active w := rfl
    refine ⟨s.windowSample_unmeasured v l, fun p k h => ⟨fun hk => ?_, fun hk => ?_⟩, fun p f h => ?_⟩
    · simp only [State.windowSample, h, if_neg (Nat.not_le.2 hk)]
      rfl
    · simp only [State.windowSample, h, if_pos hk]
      rfl
    · intro meets
      have hm := p.meetsEdge_iff v
      refine ⟨(f.take p v).capture, fun hc he => if_pos ⟨hc, hm.2 he⟩,
        fun hc => if_neg fun ht => hc.elim (· ht.1) (· (hm.1 ht.2)), ?_⟩
      intro g
      have hg : f.take p v = g := f.take_eq p v
      refine ⟨fun hl => ?_, fun hl => ?_⟩
      · simp only [State.windowSample, h, if_neg (Nat.not_le.2 hl), hg, hactive]
      · simp only [State.windowSample, h, if_pos hl, hg]
  · intro setting past judged
    have hp : u.blanked = true ↔ ¬ past := u.blanked_iff
    have hq : past → ¬ u.blanked = true := fun h hb => hp.1 hb h
    refine ⟨fun h => ?_, fun h hb => ?_, fun h hb hv => ?_, fun ⟨h, hb, h0⟩ hv hk => ?_, fun ⟨h, hb, h0⟩ hv hk => ?_⟩
    · rw [State.tripSample_counted hu (Supply.judge_of_not_on h), State.onLane_eq_setLane, ← hu, State.setLane_lane]
    · exact State.tripSample_counted hu (Supply.judge_blanked h (hp.2 hb))
    · exact State.tripSample_counted hu (Supply.judge_within h (hq hb) hv)
    · exact State.tripSample_counted hu ((Supply.judge_over h (hq hb) h0 hv).trans (by rw [decide_eq_false (Nat.not_le.2 hk)]))
    · intro tripped
      have ht : s.tripSample v l = ((tripped.abortOnTrip l).recordAsync (.overcurrent v) l).offerLane .supplyTripped l := by
        rw [State.tripSample_trips hu ((Supply.judge_over h (hq hb) h0 hv).trans (by rw [decide_eq_true hk])), State.trip,
          State.onLane_onLane]
        rfl
      have ha : (tripped.lane l).supply.active = u.active := by simp [tripped, setting]
      refine ⟨fun p k hw => ?_, fun p f hw => ?_, fun hw => ?_⟩
      · rw [ht, State.abortOnTrip_delaying (ha.trans hw)]
      · rw [ht, State.abortOnTrip_measuring (ha.trans hw)]
      · rw [ht, State.abortOnTrip_unmeasured (by rwa [ha])]

end Sys2Proof.Machine
end

section
/-! A nest that becomes seated or empty (R157 to R159): what each step of an emptied nest does, and what it leaves for the
steps after it. -/

namespace Sys2Proof.Machine

/-! ### The link (R27, R159 step 1) -/

theorem State.linkNestSeated_vacant {s : State} {l : LaneId} (h : (s.lane l).link.state = .vacant) :
    s.linkNestSeated l = s.linkEnters l (s.lane l).connected := by
  simp only [State.linkNestSeated, h, State.enterWaiting_eq]
theorem State.linkNestSeated_other {s : State} {l : LaneId} (h : (s.lane l).link.state ≠ .vacant) : s.linkNestSeated l = s := by
  unfold State.linkNestSeated
  split
  · next hv => exact absurd hv h
  · rfl

theorem State.linkNestEmptied_up {s : State} {l : LaneId} (h : (s.lane l).link.state = .up) :
    s.linkNestEmptied l = (s.leaveUp l).onLane l fun K => { K with link := { K.link with state := .vacant, identity := none } } := by
  simp only [State.linkNestEmptied, h, State.setLinkState, State.onLane_onLane]
  rfl
theorem State.linkNestEmptied_disabled {s : State} {l : LaneId} (h : (s.lane l).link.state = .disabled) :
    s.linkNestEmptied l = s.onLane l fun K => { K with link := { K.link with identity := none } } := by
  simp only [State.linkNestEmptied, h]
  rfl
theorem State.linkNestEmptied_other {s : State} {l : LaneId} (hu : (s.lane l).link.state ≠ .up)
    (hd : (s.lane l).link.state ≠ .disabled) :
    s.linkNestEmptied l = s.onLane l fun K => { K with link := { K.link with state := .vacant, identity := none } } := by
  cases h : (s.lane l).link.state with
  | up => exact absurd h hu
  | disabled => exact absurd h hd
  | vacant =>
    simp only [State.linkNestEmptied, h]
    exact State.onLane_congr (by rw [LaneState.onLink, ← h])
  | waiting | attaching | failed =>
    simp only [State.linkNestEmptied, h, State.setLinkState, State.onLane_onLane]
    rfl

/-! ### What the first step leaves for the others -/

/-- What the steps of R159 after the first one read of their lane. -/
def LaneState.fittings (L : LaneState) : Supply × Strokes × Bool := (L.supply, L.strokes, L.keep)

theorem State.fittings_onLink (s : State) (l : LaneId) (f : Link → Link) :
    ((s.onLane l fun L => L.onLink f).lane l).fittings = (s.lane l).fittings := by
  rw [State.lane_onLane_self]
  rfl
theorem State.fittings_leaveUp (s : State) (l : LaneId) : ((s.leaveUp l).lane l).fittings = (s.lane l).fittings := by
  have h := congrArg LaneState.fittings
    ((s.lane l).dropped.recordSends_frame s.timebase ((s.lane l).sends.map fun r => (r, .linkLost)))
  rw [State.leaveUp_eq, State.lane_setLane_self]
  exact h
theorem State.fittings_linkNestEmptied (s : State) (l : LaneId) :
    ((s.linkNestEmptied l).lane l).fittings = (s.lane l).fittings := by
  unfold State.linkNestEmptied
  rw [State.fittings_onLink]
  split
  · rfl
  · rfl
  · exact s.fittings_onLink l _
  · exact s.fittings_onLink l _
  · exact ((s.leaveUp l).fittings_onLink l _).trans (s.fittings_leaveUp l)
  · exact s.fittings_onLink l _
theorem State.fittings_recordAsync (s : State) (c : Cond) (l : LaneId) :
    ((s.recordAsync c l).lane l).fittings = (s.lane l).fittings := by
  cases hc : (s.lane l).claim with
  | none => rw [State.recordAsync_free _ _ _ hc]
  | some k =>
    rw [State.recordAsync_held _ _ _ _ hc, State.recordLane, State.lane_onLane_self]
    rfl

/-! ### The supply and its window (R131, R140) -/

theorem Supply.nestEmptied_on {u : Supply} (h : u.state = .on) :
    u.nestEmptied = { u with state := .off, blankCount := 0, blankPassed := false, tripRun := 0 } := by
  simp only [Supply.nestEmptied, h]
  rfl
theorem Supply.nestEmptied_other {u : Supply} (h : u.state ≠ .on) : u.nestEmptied = u := by
  cases hs : u.state with
  | on => exact absurd hs h
  | off | tripped => simp only [Supply.nestEmptied, hs]
theorem Supply.nestEmptied_active (u : Supply) : u.nestEmptied.active = u.active := by
  by_cases h : u.state = .on
  · rw [Supply.nestEmptied_on h]
  · rw [Supply.nestEmptied_other h]

section
variable {s : State} {l : LaneId} {p : WindowParams}

theorem State.abortOnEmptied_armed (h : (s.lane l).supply.active = .armed p) :
    s.abortOnEmptied l = s.endWindow false p ⟨0, 0, none, none, none⟩ l := by
  simp only [State.abortOnEmptied, h]
  rfl
theorem State.abortOnEmptied_delaying {k : Nat} (h : (s.lane l).supply.active = .delaying p k) :
    s.abortOnEmptied l = s.endWindow false p ⟨0, 0, none, none, none⟩ l := by
  simp only [State.abortOnEmptied, h]
  rfl
theorem State.abortOnEmptied_measuring {f : Figures} (h : (s.lane l).supply.active = .measuring p f) :
    s.abortOnEmptied l = s.endWindow false p f l := by simp only [State.abortOnEmptied, h]
theorem State.abortOnEmptied_resting (h : (s.lane l).supply.active.resting) : s.abortOnEmptied l = s := by
  unfold State.abortOnEmptied
  rcases h with h | ⟨p, h⟩ | ⟨p, h⟩ <;> rw [h]

end

/-- A window that ends leaves the strokes and the keep flag. -/
theorem State.endWindow_fittings (s : State) (b : Bool) (p : WindowParams) (f : Figures) (l : LaneId) :
    ((s.endWindow b p f l).lane l).fittings.2 = (s.lane l).fittings.2 := by
  rw [State.endWindow_eq, State.lane_onLane_self, State.lane_offerLane]
  rfl
theorem State.abortOnEmptied_fittings (s : State) (l : LaneId) :
    ((s.abortOnEmptied l).lane l).fittings.2 = (s.lane l).fittings.2 := by
  unfold State.abortOnEmptied
  split
  · exact s.endWindow_fittings ..
  · exact s.endWindow_fittings ..
  · exact s.endWindow_fittings ..
  · rfl

/-! ### The strokes (R155) -/

theorem Strokes.stop_running {k : Strokes} (h : k.state.code = 1) :
    k.stop = { k with queue := [], state := .stopping 15000, keyA := false, keyB := false } := by
  cases hs : k.state with
  | idle | stopping => simp [hs, StrokeState.code] at h
  | pending | step | gap => simp only [Strokes.stop, hs, Config.retractUs]
theorem Strokes.stop_stopping {k : Strokes} (h : k.state.code = 2) : k.stop = { k with queue := [] } := by
  cases hs : k.state with
  | stopping left => simp only [Strokes.stop, hs]
  | idle | pending | step | gap => simp [hs, StrokeState.code] at h

section
variable {s : State} {l : LaneId}

theorem State.strokesNestEmptied_idle (h : (s.lane l).strokes.state.code = 0) : s.strokesNestEmptied l = s := by
  cases hs : (s.lane l).strokes.state with
  | idle => simp only [State.strokesNestEmptied, hs]
  | pending | step | gap | stopping => simp [hs, StrokeState.code] at h
theorem State.strokesNestEmptied_driven {f : Strokes → Strokes} (h : (s.lane l).strokes.state.code ≠ 0)
    (hf : (s.lane l).strokes.stop = f (s.lane l).strokes) : s.strokesNestEmptied l =
      (s.onLane l fun K => { K with strokes := f K.strokes }).recordAsync .nestEmptiedStroking l := by
  have hc : (s.onLane l fun L => L.onStrokes Strokes.stop) = s.onLane l fun K => { K with strokes := f K.strokes } :=
    State.onLane_congr (by rw [LaneState.onStrokes, hf])
  rw [← hc]
  unfold State.strokesNestEmptied
  split
  · next hs => exact absurd (by rw [hs]; rfl) h
  · rfl
theorem State.strokesNestEmptied_running (h : (s.lane l).strokes.state.code = 1) : s.strokesNestEmptied l =
    (s.onLane l fun K => { K with strokes := { K.strokes with
      queue := [], state := .stopping 15000, keyA := false, keyB := false } }).recordAsync .nestEmptiedStroking l :=
  State.strokesNestEmptied_driven
    (f := fun k => { k with queue := [], state := .stopping 15000, keyA := false, keyB := false })
    (by rw [h]; decide) (Strokes.stop_running h)
theorem State.strokesNestEmptied_stopping (h : (s.lane l).strokes.state.code = 2) : s.strokesNestEmptied l =
    (s.onLane l fun K => { K with strokes := { K.strokes with queue := [] } }).recordAsync .nestEmptiedStroking l :=
  State.strokesNestEmptied_driven (f := fun k => { k with queue := [] }) (by rw [h]; decide) (Strokes.stop_stopping h)
theorem State.strokesNestEmptied_keep : ((s.strokesNestEmptied l).lane l).keep = (s.lane l).keep := by
  by_cases h : (s.lane l).strokes.state.code = 0
  · rw [State.strokesNestEmptied_idle h]
  · rw [State.strokesNestEmptied_driven (f := Strokes.stop) h rfl]
    refine (congrArg (·.2.2) (State.fittings_recordAsync _ _ l)).trans ?_
    rw [State.lane_onLane_self]
    rfl

end

/-! ### The end of a qualification -/

/-- R157: at the end of a qualification the time has passed, and the debounced state takes the raw level. -/
theorem execNestQualificationEnd_eq {s : State} {l : LaneId} {left : Nat} (hq : (s.lane l).nest.qual = some left) :
    exec (.nestQualificationEnd l) s = .next
      (if (s.lane l).nest.raw
        then ((s.advance left).setLane l
          { (s.lane l).pass left with nest := ⟨(s.lane l).nest.raw, (s.lane l).nest.raw, none⟩ }).nestSeated l
        else ((s.advance left).setLane l
          { (s.lane l).pass left with nest := ⟨(s.lane l).nest.raw, (s.lane l).nest.raw, none⟩ }).nestEmptied l) := by
  simp only [exec, execNestQualificationEnd, hq, State.onLane_eq_setLane, State.lane_advance]
  rfl

/-- Settles O52: each step of R158 and R159 by what it finds, which the passing of time and the steps before it have left. -/
theorem nestsSettle : Obligations.NestsSettle := by
  rintro s l left L hq rfl t changed
  have he := execNestQualificationEnd_eq hq
  have ht : (s.advance left).setLane l
      { (s.lane l).pass left with nest := ⟨(s.lane l).nest.raw, (s.lane l).nest.raw, none⟩ } = t := by
    simp only [t, State.onLane_eq_setLane, State.lane_advance]
  have hl : t.lane l = { (s.lane l).pass left with nest := ⟨(s.lane l).nest.raw, (s.lane l).nest.raw, none⟩ } := by
    rw [← ht, State.lane_setLane_self]
  rw [ht] at he
  clear_value t
  have hlink (k : LinkState) (hk : ∀ a, k ≠ .attaching a) : (t.lane l).link.state = k ↔ (s.lane l).link.state = k := by
    rw [hl, ← s.state_advance_eq_iff left l hk, State.lane_advance]
  refine ⟨fun hr => ?_, fun hr => ?_⟩
  · have hc : (t.lane l).connected = (s.lane l).connected := by
      rw [hl]
      rfl
    rw [he, if_pos hr]
    refine ⟨fun h => ?_, fun h => ?_⟩
    · rw [State.nestSeated, State.linkNestSeated_vacant ((hlink _ (by simp)).2 h), hc]
      rfl
    · rw [State.nestSeated, State.linkNestSeated_other (mt (hlink _ (by simp)).1 h)]
      rfl
  · let gone := t.linkNestEmptied l
    let off := gone.onLane l fun K => K.onSupply Supply.nestEmptied
    let aborted := off.abortOnEmptied l
    let stopped := aborted.strokesNestEmptied l
    have hgone : (gone.lane l).fittings = ((s.lane l).pass left).fittings := by
      rw [State.fittings_linkNestEmptied, hl]
      rfl
    have hsupply : (gone.lane l).supply = ((s.lane l).pass left).supply := congrArg (·.1) hgone
    have hactive : (off.lane l).supply.active = (s.lane l).supply.active := by
      rw [State.lane_onLane_self]
      exact (Supply.nestEmptied_active _).trans ((congrArg Supply.active hsupply).trans rfl)
    have haborted : (aborted.lane l).fittings.2 = ((s.lane l).pass left).fittings.2 := by
      rw [State.abortOnEmptied_fittings, State.lane_onLane_self]
      exact congrArg (·.2) hgone
    have hcode : (aborted.lane l).strokes.state.code = (s.lane l).strokes.state.code :=
      (congrArg (fun x : Strokes × Bool => x.1.state.code) haborted).trans (StrokeState.code_pass _ _)
    have hkeep : (stopped.lane l).keep = (s.lane l).keep := State.strokesNestEmptied_keep.trans (congrArg (·.2) haborted)
    refine ⟨gone, off, aborted, stopped, stopped.keepNestEmptied l, fun h => ?_, fun h => ?_, fun h h' => ?_, fun h => ?_, fun h => ?_,
      fun p h => ?_, fun p k h => ?_, fun p f h => ?_, fun h => ?_, fun h => ?_, fun h => ?_, fun h => ?_, fun h => ?_,
      fun h => ?_, ?_⟩
    · exact State.linkNestEmptied_up ((hlink _ (by simp)).2 h)
    · exact State.linkNestEmptied_disabled ((hlink _ (by simp)).2 h)
    · exact State.linkNestEmptied_other (mt (hlink _ (by simp)).1 h) (mt (hlink _ (by simp)).1 h')
    · refine State.onLane_congr ?_
      rw [LaneState.onSupply, Supply.nestEmptied_on (by rw [hsupply]; exact h)]
    · have hn : (gone.lane l).supply.nestEmptied = (gone.lane l).supply := Supply.nestEmptied_other (by rw [hsupply]; exact h)
      exact (State.onSupply_eq rfl _).trans (by rw [hn, State.onLane_eq_setLane, State.setLane_lane])
    · exact State.abortOnEmptied_armed (hactive.trans h)
    · exact State.abortOnEmptied_delaying (hactive.trans h)
    · exact State.abortOnEmptied_measuring (hactive.trans h)
    · exact State.abortOnEmptied_resting (by rwa [hactive])
    · exact State.strokesNestEmptied_running (hcode.trans h)
    · exact State.strokesNestEmptied_stopping (hcode.trans h)
    · exact State.strokesNestEmptied_idle (by rw [hcode, h]; rfl)
    · exact if_pos (hkeep.trans h)
    · exact if_neg (by rw [hkeep, h]; decide)
    · rw [he, if_neg (by simp [hr])]
      rfl

end Sys2Proof.Machine
end

section
/-! The lane-scope requests of the stroke unit: QUEUE_STROKES (R147), SET_STROKE_TIMING (R148) and STOP_STROKES with the end
of its retract (R154). -/

namespace Sys2Proof.Machine

/-- A change of a lane's strokes, by the value it gives to the strokes that the lane has. -/
theorem State.onStrokes_eq {s : State} {l : LaneId} {k : Strokes} (h : (s.lane l).strokes = k) (f : Strokes → Strokes) :
    (s.onLane l fun L => L.onStrokes f) = s.onLane l fun L => { L with strokes := f k } :=
  State.onLane_congr (by rw [LaneState.onStrokes, h])

/-! ### Step entries (R147) -/

/-- The step that an entry of keys, duration and flags names, with the duration clamped. -/
def entryStep (e : Byte × Byte × Byte × Byte) : Step :=
  ⟨e.1.getLsbD 0, e.1.getLsbD 1, max 1 (min (e.2.1.toNat + 256 * e.2.2.1.toNat) 10000), e.2.2.2.getLsbD 0⟩

/-- The bytes of a list of entries. -/
def entriesBody (es : List (Byte × Byte × Byte × Byte)) : List Byte := (es.map fun e => [e.1, e.2.1, e.2.2.1, e.2.2.2]).flatten

theorem stepOf_bad {keys lo hi flags : Byte} (h : 3 < keys.toNat ∨ 1 < flags.toNat) : stepOf keys lo hi flags = none := if_pos h

theorem stepOf_good {e : Byte × Byte × Byte × Byte} (h : e.1.toNat ≤ 3 ∧ e.2.2.2.toNat ≤ 1) :
    stepOf e.1 e.2.1 e.2.2.1 e.2.2.2 = some (entryStep e) := by
  have hflags : e.2.2.2 = 0 ∨ e.2.2.2 = 1 := by bv_omega
  have htie : (e.2.2.2.toNat == 1) = e.2.2.2.getLsbD 0 := by rcases hflags with hf | hf <;> simp [hf]
  rw [stepOf, if_neg (by omega), htie]
  rfl

theorem length_entriesBody (es : List (Byte × Byte × Byte × Byte)) : (entriesBody es).length = 4 * es.length := by
  induction es with
  | nil => rfl
  | cons e es ih =>
    have hcons : (entriesBody (e :: es)).length = (entriesBody es).length + 4 := rfl
    rw [hcons, ih, List.length_cons, Nat.mul_succ]

/-- The first entry of a body is read before the others. -/
theorem stepsOf_entries_cons (e : Byte × Byte × Byte × Byte) (es : List (Byte × Byte × Byte × Byte)) :
    stepsOf (entriesBody (e :: es)) = (stepOf e.1 e.2.1 e.2.2.1 e.2.2.2).bind fun st => (stepsOf (entriesBody es)).map (st :: ·) := by
  show stepsOf (e.1 :: e.2.1 :: e.2.2.1 :: e.2.2.2 :: entriesBody es) = _
  rw [stepsOf]
  cases stepOf e.1 e.2.1 e.2.2.1 e.2.2.2 <;> cases stepsOf (entriesBody es) <;> rfl

theorem stepsOf_entries_bad {es : List (Byte × Byte × Byte × Byte)} (h : ∃ e ∈ es, 3 < e.1.toNat ∨ 1 < e.2.2.2.toNat) :
    stepsOf (entriesBody es) = none := by
  induction es with
  | nil => simp at h
  | cons e es ih =>
    rw [stepsOf_entries_cons]
    obtain ⟨x, hx, hbad⟩ := h
    rcases List.mem_cons.1 hx with rfl | hx
    · rw [stepOf_bad hbad, Option.bind_none]
    · rw [ih ⟨x, hx, hbad⟩]
      exact Option.bind_fun_none _

theorem stepsOf_entries_good {es : List (Byte × Byte × Byte × Byte)} (h : ∀ e ∈ es, e.1.toNat ≤ 3 ∧ e.2.2.2.toNat ≤ 1) :
    stepsOf (entriesBody es) = some (es.map entryStep) := by
  induction es with
  | nil => rfl
  | cons e es ih =>
    obtain ⟨he, hes⟩ := List.forall_mem_cons.1 h
    rw [stepsOf_entries_cons, stepOf_good he, ih hes]
    rfl

/-! ### The requests -/

/-- Settles O36: the body is read by `stepsOf_entries_bad` and `stepsOf_entries_good`, and each request is one change of the
lane's strokes or a refusal. -/
theorem strokeListRequests : Obligations.StrokeListRequests := by
  intro s o l tag k hs hp hk
  refine ⟨fun entries hne hle => ?_, fun gap mark => ?_⟩
  · intro body steps
    have hlen : body.length = 4 * entries.length := length_entriesBody entries
    have hpos : 0 < entries.length := List.length_pos_iff.2 hne
    have hform : (decide (4 ≤ body.length) && decide (body.length ≤ 64) && decide (body.length % 4 = 0)) = true := by
      simp only [Bool.and_eq_true, decide_eq_true_eq]
      omega
    have ha : exec (.queueStrokes o (laneByte l) tag body) s =
        .next (handleQueueStrokes l ⟨o, laneByte l, 0x38, tag, body⟩ s) :=
      congrArg Host.Outcome.next (arrive_laneRequest hs hp oneReply_queueStrokes 0x38 tag body hform (by omega))
    refine ⟨fun hbad => ?_, fun hgood => ?_⟩
    · have hnone : stepsOf body = none := stepsOf_entries_bad hbad
      simp only [ha, handleQueueStrokes, hnone]
      rfl
    · have hsome : stepsOf body = some steps := stepsOf_entries_good hgood
      simp only [ha, handleQueueStrokes, hsome, hk, Config.strokeQueueMax]
      refine ⟨fun hfull => ?_, fun hfits => ?_⟩
      · rw [if_pos hfull]
        rfl
      · have harm : (decide (k.lowMark < k.queue.length + steps.length) || k.lowArmed) =
            if k.lowMark < k.queue.length + steps.length then true else k.lowArmed := by
          split <;> simp [*]
        rw [if_neg (Nat.not_lt.2 hfits), State.onStrokes_eq hk, Strokes.append, harm]
        rfl
  · intro g m
    have ha : exec (.setStrokeTiming o (laneByte l) tag [gap, mark]) s =
        .next (handleSetStrokeTiming l ⟨o, laneByte l, 0x3A, tag, [gap, mark]⟩ s) :=
      congrArg Host.Outcome.next (arrive_laneRequest hs hp oneReply_setStrokeTiming 0x3A tag _ rfl (by simp))
    have hm : clamp 0 15 mark.toNat = m := Nat.zero_max _
    simp only [ha, handleSetStrokeTiming, byteAt, List.getD_cons_succ, List.getD_cons_zero, hm, State.onStrokes_eq hk]
    rfl

/-! ### The replies that wait for a retract (R154) -/

/-- R121, R154: the conditions of the requesters of some waiting replies are cleared. -/
def LaneState.stopsAnswered (ws : List StopWait) (L : LaneState) : LaneState :=
  ws.foldl (fun K w => K.onSense w.originator Sense.clear) L

/-- The reply of a STOP_STROKES that has waited. -/
def StopWait.reply (l : LaneId) (w : StopWait) : Reply :=
  ⟨w.originator, laneByte l, 0x39, w.tag, .good, le8 w.former ++ le8 w.cleared⟩

/-- Answering changes the sense records alone. -/
theorem LaneState.stopsAnswered_frame (ws : List StopWait) (L : LaneState) : { L.stopsAnswered ws with sense := L.sense } = L := by
  have h (M : LaneState) : { M.stopsAnswered ws with sense := L.sense } = { M with sense := L.sense } := by
    induction ws generalizing M with
    | nil => rfl
    | cons w ws ih => exact ih _
  exact h L

theorem Sense.clear_clear (r : Sense) : r.clear.clear = r.clear := rfl

/-- The record of an originator is cleared where one of the replies is its own. -/
theorem LaneState.stopsAnswered_sense (ws : List StopWait) (L : LaneState) (p : Originator) :
    (L.stopsAnswered ws).sense[p] = if ∃ w ∈ ws, w.originator = p then L.sense[p].clear else L.sense[p] := by
  induction ws generalizing L with
  | nil => simp [LaneState.stopsAnswered]
  | cons w ws ih =>
    refine (ih _).trans ?_
    by_cases hp : w.originator = p
    · subst hp
      simp [Sense.clear_clear]
    · simp [hp]

/-- R154: the whole effect of the replies that have waited. -/
theorem State.answerStops_eq (l : LaneId) (ws : List StopWait) (s : State) :
    ws.foldl (fun t w => t.answerStop l w) s =
      ({ s with ready := s.ready ++ ws.map (StopWait.reply l) } : State).setLane l ((s.lane l).stopsAnswered ws) := by
  induction ws generalizing s with
  | nil =>
    rw [List.map_nil, List.append_nil]
    exact (s.setLane_lane l).symm
  | cons w ws ih =>
    have hw : s.answerStop l w =
        (s.pushReply (w.reply l)).setLane l ((s.lane l).onSense w.originator Sense.clear) := rfl
    have hready : (s.answerStop l w).ready ++ ws.map (StopWait.reply l) = s.ready ++ (w :: ws).map (StopWait.reply l) :=
      List.append_assoc ..
    rw [List.foldl_cons, ih, hready, hw, State.lane_setLane_self]
    exact State.setLane_setLane ({ s with ready := s.ready ++ (w :: ws).map (StopWait.reply l) } : State) l _ _

/-- R154: at the end of a retract the time has passed, the lane is IDLE, and the waiting replies are READY. -/
theorem execRetractEnd_eq {s : State} {l : LaneId} {left : Nat} (h : (s.lane l).strokes.state = .stopping left) :
    exec (.retractEnd l) s = .next
      (({ s.advance left with ready := s.ready ++ (s.lane l).strokes.waiting.map (StopWait.reply l) } : State).setLane l
        (LaneState.stopsAnswered (s.lane l).strokes.waiting
          { (s.lane l).pass left with strokes := { (s.lane l).strokes with state := .idle, waiting := [] } })) := by
  simp only [exec, execRetractEnd, h, State.answerStops_eq, State.lane_onLane_self, State.lane_advance]
  exact congrArg Host.Outcome.next
    (State.setLane_setLane ({ s.advance left with ready := s.ready ++ (s.lane l).strokes.waiting.map (StopWait.reply l) } : State)
      l _ _)

/-- Settles O37: the request by the three cases of `Strokes.stop`, the end of the retract by `execRetractEnd_eq`. -/
theorem stopStrokesWaitsForRetract : Obligations.StopStrokesWaitsForRetract := by
  refine ⟨fun s o l tag k hs hp hk => ?_, fun s l left hleft => ?_⟩
  · intro waits
    have ha : exec (.stopStrokes o (laneByte l) tag []) s = .next (handleStopStrokes l ⟨o, laneByte l, 0x39, tag, []⟩ s) :=
      congrArg Host.Outcome.next (arrive_laneRequest hs hp oneReply_stopStrokes 0x39 tag _ rfl (by simp))
    have waiting (h : k.state ≠ .idle) : exec (.stopStrokes o (laneByte l) tag []) s = .next
        (s.onLane l fun L => { L with strokes := { k.stop with waiting := k.stop.waiting ++ [waits] } }) := by
      simp only [ha, handleStopStrokes, hk, if_neg h, State.onStrokes_eq hk, State.onLane_onLane]
      rfl
    refine ⟨fun h => ?_, fun h => ?_, fun left h => ?_⟩
    · have hstop : k.stop = { k with queue := [] } := by simp only [Strokes.stop, h]
      simp only [ha, handleStopStrokes, hk, if_pos h, State.onStrokes_eq hk, hstop]
      rfl
    · rw [waiting (fun hi => by simp [hi, StrokeState.code] at h), Strokes.stop_running h]
    · rw [waiting (by simp [h]), Strokes.stop_stopping (by rw [h]; rfl)]
  · refine ⟨_, execRetractEnd_eq hleft, rfl, rfl, fun k hk => State.lane_setLane_ne _ _ hk.symm, ?_⟩
    rw [State.lane_setLane_self, State.lane_advance]
    have hframe := LaneState.stopsAnswered_frame (s.lane l).strokes.waiting
      { (s.lane l).pass left with strokes := { (s.lane l).strokes with state := .idle, waiting := [] } }
    exact ⟨congrArg LaneState.strokes hframe,
      congrArg (fun K : LaneState => { K with strokes := ((s.lane l).pass left).strokes }) hframe,
      LaneState.stopsAnswered_sense _ _⟩

end Sys2Proof.Machine
end

section
/-! The run of a lane's strokes: step starts, step ends and release gaps (R150 to R153). -/

namespace Sys2Proof.Machine

/-! ### A step start (R151) -/

/-- R138, R151: a window fires where it is ARMED on the step that starts. -/
theorem ActiveWindow.fire_step (n : Nat) (w : ActiveWindow) : w.fire (hitsStep n) =
    match w with
    | .armed p => if p.trigger = .strokeStep ∧ p.step = n then p.start else .armed p
    | w => w := by
  cases w with
  | armed p => simp only [ActiveWindow.fire, hitsStep, Bool.and_eq_true, beq_iff_eq]
  | idle | delaying | measuring | done | aborted => rfl

/-- R151: a lane whose step has started, by what becomes of the armed flag of its low mark. -/
def LaneState.stepStarted (st : Step) (rest : List Step) (armed : Bool) (L : LaneState) : LaneState :=
  { L with
    strokes := { L.strokes.begin st rest with lowArmed := armed }
    supply := L.supply.fireOn (hitsStep (L.strokes.begin st rest).stepNumber) }

section
variable {s : State} {l : LaneId} {st : Step} {rest : List Step}

/-- R151, step 5: STROKES_LOW is due where the flag is armed and the queue comes down to the mark. -/
theorem Strokes.lowDue_begin_iff (k : Strokes) :
    (k.begin st rest).lowDue = true ↔ k.lowArmed = true ∧ rest.length = k.lowMark := by
  simp [Strokes.lowDue, Strokes.begin]

theorem State.startStep_low (hq : (s.lane l).strokes.queue = st :: rest)
    (h : (s.lane l).strokes.lowArmed = true ∧ rest.length = (s.lane l).strokes.lowMark) :
    s.startStep l = (s.offerLane .strokesLow l).setLane l ((s.lane l).stepStarted st rest false) := by
  simp only [State.startStep, hq, (Strokes.lowDue_begin_iff _).2 h, Bool.not_true,
    Bool.and_false]
  exact State.offerLane_setLane s .strokesLow l _ rfl

theorem State.startStep_not_low (hq : (s.lane l).strokes.queue = st :: rest)
    (h : ¬ ((s.lane l).strokes.lowArmed = true ∧ rest.length = (s.lane l).strokes.lowMark)) :
    s.startStep l = s.setLane l ((s.lane l).stepStarted st rest (s.lane l).strokes.lowArmed) := by
  have hlow := mt (Strokes.lowDue_begin_iff (st := st) (rest := rest) _).1 h
  simp only [State.startStep, hq, Bool.eq_false_of_not_eq_true hlow, Bool.not_false, Bool.and_true]
  rfl

end

/-! ### A step end (R152, R153) -/

section
variable {s : State} {l : LaneId} {ending next : Step} {rest : List Step}

/-- R153: the event of a run that ends, before the other effects as well as after them. -/
theorem State.endRun_eq (s : State) (l : LaneId) : s.endRun l = (s.offerLane .strokesDone l).onLane l fun L =>
    { L with strokes := { L.strokes with state := .idle, keyA := false, keyB := false } } :=
  State.offerLane_setLane s .strokesDone l _ rfl

theorem Step.sharesKey_iff (a b : Step) :
    a.sharesKey b = true ↔ (a.keyA = true ∧ b.keyA = true) ∨ (a.keyB = true ∧ b.keyB = true) := by
  simp [Step.sharesKey]

theorem State.afterStep_empty (hq : (s.lane l).strokes.queue = []) : s.afterStep ending l = s.endRun l := by
  simp only [State.afterStep, hq]
theorem State.afterStep_lifted (hq : (s.lane l).strokes.queue = next :: rest)
    (h : next.tie = false ∧ ending.sharesKey next = true) :
    s.afterStep ending l = s.onLane l fun L => { L with strokes := { L.strokes with
      state := .gap (L.strokes.gap * 1000), keyA := false, keyB := false } } := by
  simp only [State.afterStep, hq, if_pos h]
  rfl
theorem State.afterStep_started (hq : (s.lane l).strokes.queue = next :: rest)
    (h : ¬ (next.tie = false ∧ ending.sharesKey next = true)) : s.afterStep ending l = s.startStep l := by
  simp only [State.afterStep, hq, if_neg h]

end

/-- Settles O51: the two starts are `startStep` after the time has passed, a step's end is a case of `afterStep`, and a start
leaves the lane as `LaneState.stepStarted` says. -/
theorem strokeStepsRun : Obligations.StrokeStepsRun := by
  rintro s l L rfl
  refine ⟨fun instant left h _ => ?_, fun left h _ => ?_, fun current left h => ?_, fun st rest hq => ?_⟩
  · simp only [exec, execStartInstant, h]
  · simp only [exec, execReleaseGapEnd, h]
  · have he : exec (.stepEnd l) s = .next ((s.advance left).afterStep current l) := by simp only [exec, execStepEnd, h]
    have hpass : ((s.advance left).lane l).strokes.queue = (s.lane l).strokes.queue := by
      rw [State.lane_advance]
      rfl
    refine ⟨fun hq => ?_, fun next rest hq => ?_⟩
    · rw [he, State.afterStep_empty (hpass.trans hq), State.endRun_eq]
    · intro shared
      have hs : current.sharesKey next = true ↔ shared := current.sharesKey_iff next
      refine ⟨fun ht hsh => ?_, fun hn => ?_⟩
      · rw [he, State.afterStep_lifted (hpass.trans hq) ⟨ht, hs.2 hsh⟩]
      · rw [he, State.afterStep_started (hpass.trans hq)]
        rintro ⟨ht, hsh⟩
        exact hn.elim (fun h => Bool.false_ne_true (ht.symm.trans h)) (· (hs.1 hsh))
  · intro n low started
    have hl (armed : Bool) : (s.lane l).stepStarted st rest armed = started armed := by
      rw [LaneState.stepStarted, Supply.fireOn, ActiveWindow.fire_step]
      rfl
    exact ⟨fun h => by rw [State.startStep_low hq h, hl], fun h => by rw [State.startStep_not_low hq h, hl]⟩

end Sys2Proof.Machine
end

section
/-! The lamp (R161, R163) and the keep flag (R164) of a lane. -/

namespace Sys2Proof.Machine

/-! ### SET_LAMP (R163) -/

theorem LampSource.ofCode_of_nine_lt {n : Nat} (h : 9 < n) : LampSource.ofCode n = none := by
  match n, h with
  | n + 10, _ => rfl

theorem LampSource.ofCode_code (src : LampSource) : LampSource.ofCode src.code = some src := by cases src <;> rfl

section
variable {source flags : Byte}

/-- The flags byte of a lamp, read as its two bits and written again. -/
theorem le8_lampFlags (h : flags.toNat ≤ 3) :
    le8 ((flags.getLsbD 0).toNat + 2 * (flags.getLsbD 1).toNat) = [flags] := by
  have hf : flags = 0 ∨ flags = 1 ∨ flags = 2 ∨ flags = 3 := by bv_omega
  rcases hf with rfl | rfl | rfl | rfl <;> rfl

theorem lampOf_badField (h : 9 < source.toNat ∨ 3 < flags.toNat) : lampOf [source, flags] = none := by
  unfold lampOf
  rcases h with h | h
  · rw [byteAt_cons_zero, LampSource.ofCode_of_nine_lt h]
  · split
    · rfl
    · exact if_pos h

theorem lampOf_eq {src : LampSource} (hs : src.code = source.toNat) (hf : flags.toNat ≤ 3) :
    lampOf [source, flags] = some ⟨src, flags.getLsbD 0, flags.getLsbD 1⟩ := by
  rw [lampOf, byteAt_cons_zero, ← hs, src.ofCode_code]
  exact if_neg (Nat.not_lt.2 hf)

end

/-! ### KEEP_PHONE (R164) -/

theorem toNat_beq_one (b : Byte) : (b.toNat == 1) = (b == 1) := by
  rw [Bool.eq_iff_iff, beq_iff_eq, beq_iff_eq, ← BitVec.toNat_inj]
  rfl

section
variable {s : State} {l : LaneId} {rq : Request} {keep : Byte}

/-- R164: the three ends of KEEP_PHONE, by the byte that it brings. -/
theorem handleKeepPhone_badField (hk : byteAt rq.body 0 = keep.toNat) (h : 1 < keep.toNat) :
    handleKeepPhone l rq s = s.refuseLane .badField l rq := if_pos (hk ▸ h)
theorem handleKeepPhone_empty (hk : byteAt rq.body 0 = keep.toNat) (h : keep = 1) (he : (s.lane l).nest.seated = false) :
    handleKeepPhone l rq s = s.refuseLane (.nestEmpty none) l rq := by
  subst h
  simp [handleKeepPhone, hk, he]
theorem handleKeepPhone_done (hk : byteAt rq.body 0 = keep.toNat)
    (h : keep = 0 ∨ (keep = 1 ∧ (s.lane l).nest.seated = true)) :
    handleKeepPhone l rq s =
      (s.onLane l fun L => { L with keep := keep == 1 }).goodLane (leFlag (s.lane l).keep ++ [keep]) l rq := by
  obtain ⟨hle, hseat, hbyte⟩ : keep.toNat ≤ 1 ∧ (keep == 1 && !(s.lane l).nest.seated) = false ∧
      leFlag (keep == 1) = [keep] := by
    rcases h with rfl | ⟨rfl, hseated⟩
    · exact ⟨by decide, rfl, rfl⟩
    · exact ⟨by decide, by rw [hseated]; rfl, rfl⟩
  simp only [handleKeepPhone, hk, toNat_beq_one, if_neg (Nat.not_lt.2 hle), hseat, hbyte]
  rfl

end

/-! ### When a lamp is lit (R161) -/

/-- R161: the source as the machine computes it is the source in the words of claims. -/
theorem LaneState.lampSource_iff (L : LaneState) : L.lampSource = true ↔ L.showsSource := by
  unfold LaneState.lampSource LaneState.showsSource
  cases L.lamp.source with
  | off | on => simp
  | linkUp | stroking | supplyOn | tripped => exact beq_iff_eq
  | activity | held => exact Option.isSome_iff_ne_none
  | keep => exact Iff.rfl
  | condition =>
    cases hc : L.claim with
    | none => simp
    | some c => cases hh : L.sense[c.beneficiary].held <;> simp [hh, -Fin.getElem_fin]

theorem blinkOn_iff (t : Stamp) : blinkOn t = true ↔ t.toNat / 250000 % 2 = 0 := beq_iff_eq

/-- R161: outside hard reset the lamp is lit where its invert flag differs from its source within its blink phase. -/
theorem State.lampLit_iff (s : State) (l : LaneId) : s.lampLit l = true ↔ s.hardReset = false ∧
    ((s.lane l).lamp.invert = true ↔ ¬ ((s.lane l).showsSource ∧
      ((s.lane l).lamp.blink = true → s.timebase.toNat / 250000 % 2 = 0))) := by
  have hphase : (!(s.lane l).lamp.blink || blinkOn s.timebase) = true ↔
      ((s.lane l).lamp.blink = true → s.timebase.toNat / 250000 % 2 = 0) := by
    rw [← blinkOn_iff, Bool.or_eq_true, Bool.not_eq_true', ← Bool.not_eq_true, imp_iff_not_or]
  have hdiffer : ∀ a b : Bool, a ≠ b ↔ (b = true ↔ ¬ a = true) := by decide
  rw [← LaneState.lampSource_iff, ← hphase, ← Bool.and_eq_true, ← hdiffer, ← bne_iff_ne, ← Bool.not_eq_true',
    ← Bool.and_eq_true]
  rfl

/-- Settles O38: each request is an end of its block, and the lamp is lit as `lampLit_iff` says. -/
theorem lampAndKeep : Obligations.LampAndKeep := by
  refine ⟨fun s o l tag hs hp => ⟨fun source flags => ?_, fun keep => ?_⟩, State.lampLit_iff⟩
  · have ha : exec (.setLamp o (laneByte l) tag [source, flags]) s =
        .next (handleSetLamp l ⟨o, laneByte l, 0x40, tag, [source, flags]⟩ s) :=
      congrArg Host.Outcome.next (arrive_laneRequest hs hp oneReply_setLamp 0x40 tag _ rfl (by simp))
    refine ⟨fun hbad => ?_, fun src hsrc hflags => ?_⟩
    · simp only [ha, handleSetLamp, lampOf_badField hbad]
      rfl
    · simp only [ha, handleSetLamp, lampOf_eq hsrc hflags, hsrc, le8_toNat, le8_lampFlags hflags]
      rfl
  · have ha : exec (.keepPhone o (laneByte l) tag [keep]) s =
        .next (handleKeepPhone l ⟨o, laneByte l, 0x41, tag, [keep]⟩ s) :=
      congrArg Host.Outcome.next (arrive_laneRequest hs hp oneReply_keepPhone 0x41 tag _ rfl (by simp))
    refine ⟨fun hbad => ?_, fun h1 he => ?_, fun h => ?_⟩
    · rw [ha, handleKeepPhone_badField (byteAt_cons_zero keep []) hbad, State.refuseLane_eq _ _ _ _ rfl]
    · rw [ha, handleKeepPhone_empty (byteAt_cons_zero keep []) h1 he, State.refuseLane_eq _ _ _ _ rfl]
    · rw [ha, handleKeepPhone_done (byteAt_cons_zero keep []) h, State.goodLane_eq _ _ _ _ rfl]

end Sys2Proof.Machine
end

section
/-! Every operation leaves the queue of waiting commands alone (spec/95): one law per operation, in the order of the
model's files. -/

namespace Sys2Proof.Machine

/-! ### Ops.lean: sense records, replies, the end of a send -/

/-- A sequence of operations that each leave the queue. -/
theorem State.foldl_pending {α : Type} {f : State → α → State} (hf : ∀ s a, (f s a).pending = s.pending) (as : List α)
    (s : State) : (as.foldl f s).pending = s.pending :=
  List.foldlRecOn (motive := fun t => t.pending = s.pending) as f rfl fun t ht a _ => (hf t a).trans ht

@[simp] theorem State.recordAsync_pending (s : State) (c : Cond) (l : LaneId) :
    (s.recordAsync c l).pending = s.pending := by
  cases h : (s.lane l).claim with
  | none => rw [State.recordAsync_free _ _ _ h]
  | some k => rw [State.recordAsync_held _ _ _ _ h, State.recordLane_pending]
@[simp] theorem State.answer_pending (s : State) (rq : Request) (st : Status) (body : List Byte) :
    (s.answer rq st body).pending = s.pending := s.pushReply_pending _
@[simp] theorem State.endSendCheck_pending (s : State) (c : Cond) (l : LaneId) (r : SendRecord) :
    (s.endSendCheck c l r).pending = s.pending := by simp [State.endSendCheck]
@[simp] theorem State.endSendGood_pending (s : State) (n : Nat) (l : LaneId) (r : SendRecord) :
    (s.endSendGood n l r).pending = s.pending := by simp [State.endSendGood]
@[simp] theorem State.cancelSends_pending (s : State) (c : Cond) (l : LaneId) (rs : List SendRecord) :
    (s.cancelSends c l rs).pending = s.pending := State.foldl_pending (fun t r => t.endSendCheck_pending c l r) rs s
@[simp] theorem State.cancelChain_pending (l : LaneId) (rs : List SendRecord) (k : Nat) (s : State) :
    (s.cancelChain l k rs).pending = s.pending := by
  induction rs generalizing k s with
  | nil => rfl
  | cons r rs ih => rw [State.cancelChain, ih, State.endSendCheck_pending]

/-! ### Flags.lean, Windows.lean -/

@[simp] theorem State.squeezeAfterAdmission_pending (s : State) : s.squeezeAfterAdmission.pending = s.pending := by
  unfold State.squeezeAfterAdmission; split <;> rfl
@[simp] theorem State.squeezeAfterRelease_pending (s : State) : s.squeezeAfterRelease.pending = s.pending := by
  unfold State.squeezeAfterRelease; split <;> rfl
@[simp] theorem State.squeezeAfterOptions_pending (s : State) : s.squeezeAfterOptions.pending = s.pending := by
  simp [State.squeezeAfterOptions]
@[simp] theorem State.releaseUp_pending (s : State) (n : Nat) (l : LaneId) : (s.releaseUp n l).pending = s.pending := by
  simp [State.releaseUp]
@[simp] theorem State.discardUpstream_pending (s : State) (l : LaneId) : (s.discardUpstream l).pending = s.pending := by
  simp [State.discardUpstream]

@[simp] theorem State.endWindow_pending (s : State) (done : Bool) (p : WindowParams) (f : Figures) (l : LaneId) :
    (s.endWindow done p f l).pending = s.pending := rfl
@[simp] theorem State.abortOnTrip_pending (s : State) (l : LaneId) : (s.abortOnTrip l).pending = s.pending := by
  unfold State.abortOnTrip; split <;> rfl
@[simp] theorem State.abortOnEmptied_pending (s : State) (l : LaneId) : (s.abortOnEmptied l).pending = s.pending := by
  unfold State.abortOnEmptied; split <;> rfl
@[simp] theorem State.windowSample_pending (s : State) (v : Nat) (l : LaneId) :
    (s.windowSample v l).pending = s.pending := by
  unfold State.windowSample
  split
  · rfl
  · split <;> rfl
  · rfl
@[simp] theorem State.trip_pending (s : State) (v : Nat) (l : LaneId) : (s.trip v l).pending = s.pending := by
  simp [State.trip]
@[simp] theorem State.tripSample_pending (s : State) (v : Nat) (l : LaneId) : (s.tripSample v l).pending = s.pending := by
  unfold State.tripSample
  dsimp only
  split <;> simp

/-! ### LinkOps.lean -/

@[simp] theorem State.setLinkState_pending (s : State) (k : LinkState) (l : LaneId) :
    (s.setLinkState k l).pending = s.pending := rfl
@[simp] theorem State.enterAttaching_pending (s : State) (l : LaneId) : (s.enterAttaching l).pending = s.pending := rfl
@[simp] theorem State.zeroErrors_pending (s : State) (l : LaneId) : (s.zeroErrors l).pending = s.pending := rfl
@[simp] theorem State.enterWaiting_pending (s : State) (l : LaneId) : (s.enterWaiting l).pending = s.pending := by
  unfold State.enterWaiting; split <;> rfl
@[simp] theorem State.leaveUp_pending (s : State) (l : LaneId) : (s.leaveUp l).pending = s.pending := by
  simp [State.leaveUp]
@[simp] theorem State.linkFault_pending (s : State) (e : Nat) (l : LaneId) : (s.linkFault e l).pending = s.pending := by
  simp [State.linkFault]
@[simp] theorem State.attachFails_pending (s : State) (n : Nat) (l : LaneId) : (s.attachFails n l).pending = s.pending := by
  simp [State.attachFails]
@[simp] theorem State.attachSucceeds_pending (s : State) (id : Identity) (l : LaneId) :
    (s.attachSucceeds id l).pending = s.pending := by simp [State.attachSucceeds]
@[simp] theorem State.linkNestSeated_pending (s : State) (l : LaneId) : (s.linkNestSeated l).pending = s.pending := by
  unfold State.linkNestSeated; split <;> simp
@[simp] theorem State.linkNestEmptied_pending (s : State) (l : LaneId) : (s.linkNestEmptied l).pending = s.pending := by
  unfold State.linkNestEmptied
  rw [State.onLane_pending]
  split <;> simp
@[simp] theorem State.linkConnect_pending (s : State) (l : LaneId) : (s.linkConnect l).pending = s.pending := by
  unfold State.linkConnect; split <;> rfl
@[simp] theorem State.linkDisconnect_pending (s : State) (l : LaneId) : (s.linkDisconnect l).pending = s.pending := by
  unfold State.linkDisconnect; split <;> simp
@[simp] theorem State.linkReattach_pending (s : State) (l : LaneId) : (s.linkReattach l).pending = s.pending := by
  unfold State.linkReattach; split <;> simp
@[simp] theorem State.linkOff_pending (s : State) (l : LaneId) : (s.linkOff l).pending = s.pending := by
  unfold State.linkOff; split <;> simp
@[simp] theorem State.linkOn_pending (s : State) (l : LaneId) : (s.linkOn l).pending = s.pending := by
  unfold State.linkOn
  split
  · split <;> simp
  · rfl
@[simp] theorem State.linkLaneReset_pending (s : State) (l : LaneId) : (s.linkLaneReset l).pending = s.pending := by
  simp [State.linkLaneReset]

/-- R36, R37: a link fault leaves the queue, and so does whatever else goes on if that does. -/
theorem State.transportError_pending (s : State) (e : Nat) (l : LaneId) {go : State → State}
    (hgo : ∀ t, (go t).pending = t.pending) : (s.transportError e l go).pending = s.pending := by
  unfold State.transportError
  dsimp only
  split
  · simp
  · rw [hgo, State.onLane_pending]

/-! ### Collector.lean, Resets.lean, Arbiter.lean -/

@[simp] theorem State.overrun_pending (s : State) (seq : BitVec 16) (l : LaneId) :
    (s.overrun seq l).pending = s.pending := by
  simp [State.overrun]
@[simp] theorem State.sequenceStep_pending (s : State) (data : List Byte) (damaged urgent : Bool) (l : LaneId) :
    (s.sequenceStep data damaged urgent l).pending = s.pending := by
  unfold State.sequenceStep
  dsimp only
  split <;> simp
@[simp] theorem State.classStep_pending (s : State) (data : List Byte) (damaged : Bool) (l : LaneId) :
    (s.classStep data damaged l).pending = s.pending := by
  unfold State.classStep; split <;> simp
@[simp] theorem State.arrival_pending (s : State) (kept : List Byte) (count : Nat) (l : LaneId) :
    (s.arrival kept count l).pending = s.pending := by
  unfold State.arrival
  split_ifs <;> simp

/-- R94: the choice of a lane moves the arbiter's values alone. -/
theorem State.chooseLane_pending {s t : State} {l : LaneId} (h : s.chooseLane = some (l, t)) : t.pending = s.pending := by
  unfold State.chooseLane at h
  dsimp only at h
  split at h
  · cases h; rfl
  · split_ifs at h <;> cases h <;> rfl
  · cases h; rfl
  · cases h
theorem State.buildDataUp_pending {s t : State} {l : LaneId} {f : Frame} (h : s.buildDataUp l = some (f, t)) :
    t.pending = s.pending := by
  unfold State.buildDataUp at h
  split at h
  · cases h
  · cases h; rfl
/-- R13: each of the three sources leaves the queue. -/
theorem State.buildFrame_pending {s t : State} {f : Frame} (h : s.buildFrame = some (f, t)) : t.pending = s.pending := by
  unfold State.buildFrame at h
  split at h
  · cases h; rfl
  · split at h
    · cases h; rfl
    · split at h
      · next hc => rw [State.buildDataUp_pending h, State.chooseLane_pending hc]
      · cases h
@[simp] theorem State.placeFrame_pending (s : State) (f : Frame) : (s.placeFrame f).pending = s.pending := by
  unfold State.placeFrame; split <;> rfl

/-- R23, R24: commands that wait are the outside's, and no reset of the part drops them. -/
@[simp] theorem State.stationLinkReset_pending (s : State) : s.stationLinkReset.pending = s.pending := by
  simp only [State.stationLinkReset, State.onLanes_pending]
@[simp] theorem State.deviceReset_pending (s : State) (running : Bool) : (s.deviceReset running).pending = s.pending := by
  rw [State.deviceReset]
@[simp] theorem State.leaveConfigured_pending (s : State) (p : PortState) : (s.leaveConfigured p).pending = s.pending := by
  unfold State.leaveConfigured
  dsimp only
  split <;> simp
@[simp] theorem State.transferred_pending (s : State) (f : Frame) : (s.transferred f).pending = s.pending := by
  unfold State.transferred
  split
  · split <;> simp
  · rfl
  · simp

/-! ### AttachEvents.lean, StrokeOps.lean, FixtureEvents.lean -/

@[simp] theorem State.setPhase_pending (s : State) (p : AttachPhase) (l : LaneId) :
    (s.setPhase p l).pending = s.pending := rfl
@[simp] theorem State.judgeIdentity_pending (s : State) (bytes : List Byte) (count : Nat) (l : LaneId) :
    (s.judgeIdentity bytes count l).pending = s.pending := by
  unfold State.judgeIdentity
  split
  · split <;> simp
  · rfl
@[simp] theorem State.identityRequest_pending (s : State) (r : OutResult) (l : LaneId) :
    (s.identityRequest r l).pending = s.pending := by cases r <;> simp [State.identityRequest]
@[simp] theorem State.identityRead_pending (s : State) (r : InResult) (p : Poll) (l : LaneId) :
    (s.identityRead r p l).pending = s.pending := by
  cases r with
  | data toggle bytes => simp only [State.identityRead]; split <;> simp
  | nak => simp only [State.identityRead]; split <;> rfl
  | stall => exact s.attachFails_pending 4 l
  | transportError => rfl

@[simp] theorem State.startStep_pending (s : State) (l : LaneId) : (s.startStep l).pending = s.pending := by
  unfold State.startStep
  split
  · rfl
  · dsimp only
    split <;> rfl
@[simp] theorem State.endRun_pending (s : State) (l : LaneId) : (s.endRun l).pending = s.pending := rfl
@[simp] theorem State.afterStep_pending (s : State) (e : Step) (l : LaneId) : (s.afterStep e l).pending = s.pending := by
  unfold State.afterStep
  split
  · rfl
  · split <;> simp

@[simp] theorem State.sample_pending (s : State) (v : Nat) (l : LaneId) : (s.sample v l).pending = s.pending := by
  simp [State.sample]
@[simp] theorem State.answerStop_pending (s : State) (l : LaneId) (w : StopWait) :
    (s.answerStop l w).pending = s.pending := rfl
@[simp] theorem State.nestSeated_pending (s : State) (l : LaneId) : (s.nestSeated l).pending = s.pending := by
  simp [State.nestSeated]
@[simp] theorem State.strokesNestEmptied_pending (s : State) (l : LaneId) :
    (s.strokesNestEmptied l).pending = s.pending := by
  unfold State.strokesNestEmptied; split <;> simp
@[simp] theorem State.keepNestEmptied_pending (s : State) (l : LaneId) : (s.keepNestEmptied l).pending = s.pending := by
  unfold State.keepNestEmptied; split <;> simp
@[simp] theorem State.nestEmptied_pending (s : State) (l : LaneId) : (s.nestEmptied l).pending = s.pending := by
  simp [State.nestEmptied]

/-! ### SendRequests.lean, OutEngine.lean, InEngine.lean -/

@[simp] theorem State.setHalted_pending (s : State) (b : Bool) (l : LaneId) : (s.setHalted b l).pending = s.pending := rfl
@[simp] theorem State.flushDown_pending (s : State) (l : LaneId) : (s.flushDown l).pending = s.pending := by
  simp [State.flushDown]
@[simp] theorem State.resetSends_pending (s : State) (l : LaneId) : (s.resetSends l).pending = s.pending := by
  simp [State.resetSends]
@[simp] theorem State.resetFixture_pending (s : State) (l : LaneId) : (s.resetFixture l).pending = s.pending := by
  simp [State.resetFixture]

@[simp] theorem State.setOut_pending (s : State) (e : OutEngine) (l : LaneId) : (s.setOut e l).pending = s.pending := rfl
@[simp] theorem State.retryWait_pending (s : State) (f : Flight) (l : LaneId) : (s.retryWait f l).pending = s.pending := rfl
@[simp] theorem State.needClearing_pending (s : State) (e : Endpoint) (l : LaneId) :
    (s.needClearing e l).pending = s.pending := rfl
@[simp] theorem State.sendSucceeds_pending (s : State) (f : Flight) (l : LaneId) :
    (s.sendSucceeds f l).pending = s.pending := by
  unfold State.sendSucceeds
  dsimp only
  split <;> simp
@[simp] theorem State.sendRefused_pending (s : State) (cond : Nat → Cond) (f : Flight) (l : LaneId) :
    (s.sendRefused cond f l).pending = s.pending := by simp [State.sendRefused]

@[simp] theorem State.setIn_pending (s : State) (e : InEngine) (l : LaneId) : (s.setIn e l).pending = s.pending := rfl
@[simp] theorem State.recheckPoll_pending (s : State) (p : Option Poll) (l : LaneId) :
    (s.recheckPoll p l).pending = s.pending := rfl
@[simp] theorem State.pollGoesOn_pending (s : State) (p : Poll) (l : LaneId) : (s.pollGoesOn p l).pending = s.pending := rfl
@[simp] theorem State.packetEnds_pending (s : State) (bytes : List Byte) (count : Nat) (l : LaneId) :
    (s.packetEnds bytes count l).pending = s.pending := by simp [State.packetEnds]
@[simp] theorem State.pollError_pending (s : State) (p : Poll) (l : LaneId) : (s.pollError p l).pending = s.pending :=
  s.transportError_pending 1 l fun _ => rfl

/-! ### Reception.lean -/

@[simp] theorem State.pump_pending (s : State) : s.pump.pending = s.pending := rfl
@[simp] theorem State.refuseForm_pending (s : State) (c : Cond) (rq : Request) :
    (s.refuseForm c rq).pending = s.pending := by
  unfold State.refuseForm
  rw [State.answer_pending]
  split <;> rfl
@[simp] theorem State.refuseLane_pending (s : State) (c : Cond) (l : LaneId) (rq : Request) :
    (s.refuseLane c l rq).pending = s.pending := rfl
@[simp] theorem State.refuseDevice_pending (s : State) (c : Cond) (rq : Request) :
    (s.refuseDevice c rq).pending = s.pending := rfl
@[simp] theorem State.refuseAttention_pending (s : State) (l : LaneId) (rq : Request) :
    (s.refuseAttention l rq).pending = s.pending := rfl
@[simp] theorem State.goodLane_pending (s : State) (body : List Byte) (l : LaneId) (rq : Request) :
    (s.goodLane body l rq).pending = s.pending := rfl

end Sys2Proof.Machine
end

section
/-! The handling of every request, and with it every command, leaves the queue of waiting commands alone. -/

namespace Sys2Proof.Machine

/-- A command that ends in a next state and leaves the queue of waiting commands alone. -/
def LeavesQueue (f : State → Answer) : Prop := ∀ s, ∃ t, f s = .next t ∧ t.pending = s.pending

/-! ### Device-scope requests -/

theorem handleDeviceStatus_pending (rq : Request) (s : State) : (handleDeviceStatus rq s).pending = s.pending := rfl
theorem handleDeviceReset_pending (rq : Request) (s : State) : (handleDeviceReset rq s).pending = s.pending := rfl
theorem handleConfigurePool_pending (rq : Request) (s : State) : (handleConfigurePool rq s).pending = s.pending := by
  have hsplit (d g : Nat) : (s.applySplit d g).pending = s.pending := by
    unfold State.applySplit
    dsimp only
    split <;> rfl
  unfold handleConfigurePool
  dsimp only
  split_ifs
  · rfl
  · rfl
  · rw [State.answer_pending, hsplit]
theorem handleSetClassActions_pending (rq : Request) (s : State) : (handleSetClassActions rq s).pending = s.pending := by
  unfold handleSetClassActions
  dsimp only
  split <;> rfl
theorem handleReadClassActions_pending (rq : Request) (s : State) : (handleReadClassActions rq s).pending = s.pending := rfl
theorem handleOpenNotices_pending (rq : Request) (s : State) : (handleOpenNotices rq s).pending = s.pending := by
  unfold handleOpenNotices; split <;> rfl
theorem handleCloseNotices_pending (rq : Request) (s : State) : (handleCloseNotices rq s).pending = s.pending := by
  unfold handleCloseNotices; split <;> rfl
theorem handleSetPacing_pending (rq : Request) (s : State) : (handleSetPacing rq s).pending = s.pending := rfl
theorem State.startLanes_pending (s : State) (o : Originator) (ls : List LaneId) :
    (s.startLanes o ls).pending = s.pending :=
  State.foldl_pending (fun t l => by rw [State.clearCondition_pending, State.onLane_pending]) ls s
theorem handleStartStrokes_pending (rq : Request) (s : State) : (handleStartStrokes rq s).pending = s.pending := by
  unfold handleStartStrokes
  dsimp only
  split
  · rfl
  · split
    · rw [State.answer_pending]
      exact State.foldl_pending (fun t k => t.clearAttention_pending rq.originator k) _ s
    · split
      · rfl
      · split
        · rfl
        · split
          · rfl
          · rw [State.answer_pending, State.startLanes_pending]
theorem handleDeviceSense_pending (rq : Request) (s : State) : (handleDeviceSense rq s).pending = s.pending := rfl

/-! ### Lane-scope requests -/

theorem handleClaimLane_pending (l : LaneId) (rq : Request) (s : State) : (handleClaimLane l rq s).pending = s.pending := by
  unfold handleClaimLane
  split
  · rfl
  · split
    · rfl
    · dsimp only
      split <;> rfl
theorem handleYieldLane_pending (l : LaneId) (rq : Request) (s : State) : (handleYieldLane l rq s).pending = s.pending := by
  unfold handleYieldLane
  split_ifs <;> rfl
theorem handleBreakClaim_pending (l : LaneId) (rq : Request) (s : State) :
    (handleBreakClaim l rq s).pending = s.pending := by
  unfold handleBreakClaim; split <;> simp [State.setClaim]
theorem handleLaneStatus_pending (l : LaneId) (rq : Request) (s : State) :
    (handleLaneStatus l rq s).pending = s.pending := rfl
theorem handleLaneSense_pending (l : LaneId) (rq : Request) (s : State) : (handleLaneSense l rq s).pending = s.pending := rfl
theorem handleLaneIdentity_pending (l : LaneId) (rq : Request) (s : State) :
    (handleLaneIdentity l rq s).pending = s.pending := rfl
theorem handleSetLaneOptions_pending (l : LaneId) (rq : Request) (s : State) :
    (handleSetLaneOptions l rq s).pending = s.pending := by
  unfold handleSetLaneOptions; split <;> simp
theorem handleLaneReset_pending (l : LaneId) (rq : Request) (s : State) : (handleLaneReset l rq s).pending = s.pending := by
  simp [handleLaneReset]
theorem handleSendPacket_pending (l : LaneId) (rq : Request) (s : State) :
    (handleSendPacket l rq s).pending = s.pending := by
  unfold handleSendPacket
  dsimp only
  split_ifs <;> rfl
theorem handleResumeSend_pending (l : LaneId) (rq : Request) (s : State) :
    (handleResumeSend l rq s).pending = s.pending := rfl
theorem handleFlushLane_pending (l : LaneId) (rq : Request) (s : State) : (handleFlushLane l rq s).pending = s.pending := by
  unfold handleFlushLane
  dsimp only
  split <;> simp
theorem handleLinkReset_pending (l : LaneId) (rq : Request) (s : State) : (handleLinkReset l rq s).pending = s.pending := by
  unfold handleLinkReset; split <;> simp
theorem handleSetLink_pending (l : LaneId) (rq : Request) (s : State) : (handleSetLink l rq s).pending = s.pending := by
  unfold handleSetLink
  dsimp only
  split_ifs <;> simp
theorem handleSupply_pending (l : LaneId) (rq : Request) (s : State) : (handleSupply l rq s).pending = s.pending := by
  unfold handleSupply
  dsimp only
  split
  · rfl
  · split
    · rfl
    · split
      · rfl
      · split <;> rfl
theorem handleSetTrip_pending (l : LaneId) (rq : Request) (s : State) : (handleSetTrip l rq s).pending = s.pending := rfl
theorem handleArmWindow_pending (l : LaneId) (rq : Request) (s : State) : (handleArmWindow l rq s).pending = s.pending := by
  unfold handleArmWindow
  split
  · rfl
  · split_ifs <;> rfl
theorem handleCancelWindow_pending (l : LaneId) (rq : Request) (s : State) :
    (handleCancelWindow l rq s).pending = s.pending := rfl
theorem handleReadWindow_pending (l : LaneId) (rq : Request) (s : State) :
    (handleReadWindow l rq s).pending = s.pending := rfl
theorem handleQueueStrokes_pending (l : LaneId) (rq : Request) (s : State) :
    (handleQueueStrokes l rq s).pending = s.pending := by
  unfold handleQueueStrokes
  dsimp only
  split
  · rfl
  · split <;> rfl
theorem handleStopStrokes_pending (l : LaneId) (rq : Request) (s : State) :
    (handleStopStrokes l rq s).pending = s.pending := by
  unfold handleStopStrokes
  dsimp only
  split <;> rfl
theorem handleSetStrokeTiming_pending (l : LaneId) (rq : Request) (s : State) :
    (handleSetStrokeTiming l rq s).pending = s.pending := rfl
theorem handleSetLamp_pending (l : LaneId) (rq : Request) (s : State) : (handleSetLamp l rq s).pending = s.pending := by
  unfold handleSetLamp; split <;> rfl
theorem handleKeepPhone_pending (l : LaneId) (rq : Request) (s : State) : (handleKeepPhone l rq s).pending = s.pending := by
  unfold handleKeepPhone
  dsimp only
  split_ifs <;> rfl

/-! ### The arrival and the request checks -/

/-- A request takes its frame out of reception, and changes the queue by its handling alone. -/
theorem arrive_pending {rq : Request} {handle : Request → State → State} (hh : ∀ t, (handle rq t).pending = t.pending)
    (s : State) : (arrive rq handle s).pending = s.pending := by
  unfold arrive State.takeRequest
  split
  · rfl
  · next t ht =>
    have htake : t.pending = s.pending := by split_ifs at ht <;> (cases ht; rfl)
    rw [State.pump_pending, hh, htake]

theorem leavesQueue_laneRequest {handle : LaneId → Request → State → State}
    (hh : ∀ l rq s, (handle l rq s).pending = s.pending) (access : Access) (ok : Nat → Bool) (rq : Request) :
    LeavesQueue fun s => .next (arrive rq (laneRequest access ok handle) s) := fun s => ⟨_, rfl, by
  refine arrive_pending (fun t => ?_) s
  unfold laneRequest
  dsimp only
  split_ifs
  · exact t.refuseForm_pending _ rq
  · rfl
  · rfl
  · exact hh _ rq t
  · exact t.refuseForm_pending _ rq⟩

theorem leavesQueue_deviceRequest {handle : Request → State → State} (hh : ∀ rq s, (handle rq s).pending = s.pending)
    (ok : Nat → Bool) (rq : Request) : LeavesQueue fun s => .next (arrive rq (deviceRequest ok handle) s) := fun s =>
  ⟨_, rfl, by
  refine arrive_pending (fun t => ?_) s
  unfold deviceRequest
  split_ifs
  · exact t.refuseForm_pending _ rq
  · exact t.refuseForm_pending _ rq
  · exact hh rq t⟩

/-! ### The OUT side, the port and the arbiter -/

theorem leavesQueue_frameDiscarded (bytes : List Byte) : LeavesQueue (execFrameDiscarded bytes) := fun s => ⟨_, rfl, by
  extract_lets t
  have ht : t.pending = s.pending := by
    unfold t
    split_ifs <;> rfl
  split
  · exact ht
  · rfl⟩
theorem leavesQueue_outDataPacket (bytes : List Byte) : LeavesQueue (execOutDataPacket bytes) :=
  fun s => ⟨_, rfl, by split <;> rfl⟩
theorem leavesQueue_unknownRequest (o : Originator) (lane code tag : Byte) (body : List Byte) :
    LeavesQueue (execUnknownRequest o lane code tag body) := fun s => ⟨_, rfl, by
  split
  · rfl
  · exact arrive_pending (fun t => t.refuseForm_pending _ _) s⟩

theorem leavesQueue_setConfiguration : LeavesQueue execSetConfiguration := fun s => ⟨_, rfl, by split <;> rfl⟩
theorem leavesQueue_deconfigure : LeavesQueue execDeconfigure := fun s => ⟨_, rfl, by split <;> simp⟩
theorem leavesQueue_busReset : LeavesQueue execBusReset := fun s => ⟨_, rfl, by split <;> simp⟩
theorem leavesQueue_vbusLoss : LeavesQueue execVbusLoss := fun s => ⟨_, rfl, by dsimp only; split <;> simp⟩
theorem leavesQueue_vbusPresent : LeavesQueue execVbusPresent := fun s => ⟨_, rfl, by split <;> rfl⟩
theorem leavesQueue_suspend : LeavesQueue execSuspend := fun s => ⟨_, rfl, by split <;> rfl⟩
theorem leavesQueue_hardResetRelease : LeavesQueue execHardResetRelease := fun s => ⟨_, rfl, by split <;> simp⟩

theorem leavesQueue_frameBuild : LeavesQueue execFrameBuild := fun s => ⟨_, rfl, by
  split
  · split
    · next hb => rw [State.placeFrame_pending, State.buildFrame_pending hb]
    · rfl
  · rfl⟩
theorem leavesQueue_inTransferDone : LeavesQueue execInTransferDone := fun s => ⟨_, rfl, by
  split
  · split <;> simp
  · rfl⟩
theorem leavesQueue_pacingTimerExpiry (o : Originator) : LeavesQueue (execPacingTimerExpiry o) :=
  fun s => ⟨_, rfl, by split <;> rfl⟩

/-! ### Lines and attaches (R25 to R33) -/

theorem leavesQueue_connectDetection (l : LaneId) : LeavesQueue (execConnectDetection l) :=
  fun s => ⟨_, rfl, by split <;> simp⟩
theorem leavesQueue_disconnectDetection (l : LaneId) : LeavesQueue (execDisconnectDetection l) :=
  fun s => ⟨_, rfl, by split <;> simp⟩
theorem leavesQueue_portResetEnd (l : LaneId) (b : Bool) : LeavesQueue (execPortResetEnd l b) :=
  fun s => ⟨_, rfl, by split <;> simp⟩
theorem leavesQueue_enumerationTransferDone (l : LaneId) (r : EnumResult) :
    LeavesQueue (execEnumerationTransferDone l r) := fun s => ⟨_, rfl, by
  split
  · dsimp only
    split <;> simp
  · rfl⟩
theorem leavesQueue_attachRetryExpiry (l : LaneId) : LeavesQueue (execAttachRetryExpiry l) :=
  fun s => ⟨_, rfl, by split <;> rfl⟩
theorem leavesQueue_identityTransactionDone (l : LaneId) (r : IdentityResult) :
    LeavesQueue (execIdentityTransactionDone l r) := fun s => ⟨_, rfl, by
  split
  · split <;> simp
  · rfl⟩
theorem leavesQueue_identityReadTimeout (l : LaneId) : LeavesQueue (execIdentityReadTimeout l) :=
  fun s => ⟨_, rfl, by split <;> rfl⟩
theorem leavesQueue_attachTimerExpiry (l : LaneId) : LeavesQueue (execAttachTimerExpiry l) :=
  fun s => ⟨_, rfl, by split <;> simp⟩

/-! ### The engines (R36 to R43) -/

theorem leavesQueue_sendStart (l : LaneId) : LeavesQueue (execSendStart l) := fun s => ⟨_, rfl, by
  split
  · rfl
  · split <;> rfl⟩
theorem leavesQueue_outTransactionDone (l : LaneId) (r : OutResult) : LeavesQueue (execOutTransactionDone l r) :=
  fun s => ⟨_, rfl, by
  split
  · cases r with
    | accepted => dsimp only; split <;> simp
    | nak => rfl
    | stall => simp
    | transportError => exact s.transportError_pending 0 l fun t => by split <;> simp
  · rfl
  · rfl⟩
theorem leavesQueue_sendTimerExpiry (l : LaneId) : LeavesQueue (execSendTimerExpiry l) := fun s => ⟨_, rfl, by
  split
  · split <;> simp
  · rfl
  · rfl⟩
theorem leavesQueue_retryWaitEnd (l : LaneId) : LeavesQueue (execRetryWaitEnd l) := fun s => ⟨_, rfl, by split <;> rfl⟩
theorem leavesQueue_stallClearingDone (l : LaneId) (r : ClearResult) : LeavesQueue (execStallClearingDone l r) :=
  fun s => ⟨_, rfl, by
  split
  · cases r with
    | cleared => rfl
    | stall => rfl
    | nak => rfl
    | transportError => exact s.transportError_pending _ l fun _ => rfl
  · rfl⟩
theorem leavesQueue_stallClearingRetry (l : LaneId) : LeavesQueue (execStallClearingRetry l) :=
  fun s => ⟨_, rfl, by split <;> rfl⟩
theorem leavesQueue_pollIssue (l : LaneId) : LeavesQueue (execPollIssue l) := fun s => ⟨_, rfl, by split <;> rfl⟩
theorem leavesQueue_inTransactionDone (l : LaneId) (r : InResult) : LeavesQueue (execInTransactionDone l r) :=
  fun s => ⟨_, rfl, by
  split
  · cases r with
    | data toggle bytes => dsimp only; split <;> simp
    | nak => dsimp only; split <;> rfl
    | stall => simp
    | transportError => exact s.pollError_pending _ l
  · rfl⟩
theorem leavesQueue_pollNakTimeout (l : LaneId) : LeavesQueue (execPollNakTimeout l) := fun s => ⟨_, rfl, by
  split
  · exact State.transportError_pending _ 1 l fun _ => rfl
  · rfl
  · rfl⟩
theorem leavesQueue_pollWaitEnd (l : LaneId) : LeavesQueue (execPollWaitEnd l) := fun s => ⟨_, rfl, by
  split
  · rfl
  · split <;> rfl
  · rfl
  · rfl⟩

/-! ### The collector and the fixture -/

theorem leavesQueue_packTimerExpiry (l : LaneId) : LeavesQueue (execPackTimerExpiry l) :=
  fun s => ⟨_, rfl, by split <;> rfl⟩
theorem leavesQueue_sampleEvent (l : LaneId) (v : Fin 4096) : LeavesQueue (execSampleEvent l v) :=
  fun s => ⟨_, rfl, by split <;> simp⟩
theorem leavesQueue_startInstant (l : LaneId) : LeavesQueue (execStartInstant l) := fun s => ⟨_, rfl, by split <;> simp⟩
theorem leavesQueue_stepEnd (l : LaneId) : LeavesQueue (execStepEnd l) := fun s => ⟨_, rfl, by split <;> simp⟩
theorem leavesQueue_releaseGapEnd (l : LaneId) : LeavesQueue (execReleaseGapEnd l) :=
  fun s => ⟨_, rfl, by split <;> simp⟩
theorem leavesQueue_retractEnd (l : LaneId) : LeavesQueue (execRetractEnd l) := fun s => ⟨_, rfl, by
  split
  · exact State.foldl_pending (fun t w => t.answerStop_pending l w) _ _
  · rfl⟩
theorem leavesQueue_nestQualificationEnd (l : LaneId) : LeavesQueue (execNestQualificationEnd l) := fun s => ⟨_, rfl, by
  split
  · dsimp only
    split <;> simp
  · rfl⟩
theorem leavesQueue_activityTimerExpiry (l : LaneId) : LeavesQueue (execActivityTimerExpiry l) :=
  fun s => ⟨_, rfl, by split <;> rfl⟩

/-! ### Every command -/

/-- Settles O2: a request by its checks and its block's handling, and any other command by its own law. -/
theorem commandsLeaveQueue : Obligations.CommandsLeaveQueue := by
  intro c s
  cases c with
  | frameDiscarded bytes => exact leavesQueue_frameDiscarded bytes s
  | unknownRequest o lane code tag body => exact leavesQueue_unknownRequest o lane code tag body s
  | outResume => exact ⟨_, rfl, s.pump_pending⟩
  | setConfiguration => exact leavesQueue_setConfiguration s
  | deconfigure => exact leavesQueue_deconfigure s
  | busReset => exact leavesQueue_busReset s
  | vbusLoss => exact leavesQueue_vbusLoss s
  | vbusPresent => exact leavesQueue_vbusPresent s
  | suspend => exact leavesQueue_suspend s
  | resume => exact ⟨_, rfl, rfl⟩
  | hardReset => exact ⟨_, rfl, State.deviceReset_pending _ false⟩
  | frameBuild => exact leavesQueue_frameBuild s
  | inTransferDone => exact leavesQueue_inTransferDone s
  | pacingTimerExpiry o => exact leavesQueue_pacingTimerExpiry o s
  | deviceStatus => exact leavesQueue_deviceRequest handleDeviceStatus_pending _ _ s
  | deviceReset => exact leavesQueue_deviceRequest handleDeviceReset_pending _ _ s
  | configurePool => exact leavesQueue_deviceRequest handleConfigurePool_pending _ _ s
  | setClassActions => exact leavesQueue_deviceRequest handleSetClassActions_pending _ _ s
  | readClassActions => exact leavesQueue_deviceRequest handleReadClassActions_pending _ _ s
  | openNotices => exact leavesQueue_deviceRequest handleOpenNotices_pending _ _ s
  | closeNotices => exact leavesQueue_deviceRequest handleCloseNotices_pending _ _ s
  | setPacing => exact leavesQueue_deviceRequest handleSetPacing_pending _ _ s
  | startStrokes => exact leavesQueue_deviceRequest handleStartStrokes_pending _ _ s
  | deviceSense => exact leavesQueue_deviceRequest handleDeviceSense_pending _ _ s
  | claimLane => exact leavesQueue_laneRequest handleClaimLane_pending _ _ _ s
  | yieldLane => exact leavesQueue_laneRequest handleYieldLane_pending _ _ _ s
  | breakClaim => exact leavesQueue_laneRequest handleBreakClaim_pending _ _ _ s
  | laneStatus => exact leavesQueue_laneRequest handleLaneStatus_pending _ _ _ s
  | laneSense => exact leavesQueue_laneRequest handleLaneSense_pending _ _ _ s
  | laneIdentity => exact leavesQueue_laneRequest handleLaneIdentity_pending _ _ _ s
  | setLaneOptions => exact leavesQueue_laneRequest handleSetLaneOptions_pending _ _ _ s
  | laneReset => exact leavesQueue_laneRequest handleLaneReset_pending _ _ _ s
  | sendPacket => exact leavesQueue_laneRequest handleSendPacket_pending _ _ _ s
  | resumeSend => exact leavesQueue_laneRequest handleResumeSend_pending _ _ _ s
  | flushLane => exact leavesQueue_laneRequest handleFlushLane_pending _ _ _ s
  | linkReset => exact leavesQueue_laneRequest handleLinkReset_pending _ _ _ s
  | setLink => exact leavesQueue_laneRequest handleSetLink_pending _ _ _ s
  | supply => exact leavesQueue_laneRequest handleSupply_pending _ _ _ s
  | setTrip => exact leavesQueue_laneRequest handleSetTrip_pending _ _ _ s
  | armWindow => exact leavesQueue_laneRequest handleArmWindow_pending _ _ _ s
  | cancelWindow => exact leavesQueue_laneRequest handleCancelWindow_pending _ _ _ s
  | readWindow => exact leavesQueue_laneRequest handleReadWindow_pending _ _ _ s
  | queueStrokes => exact leavesQueue_laneRequest handleQueueStrokes_pending _ _ _ s
  | stopStrokes => exact leavesQueue_laneRequest handleStopStrokes_pending _ _ _ s
  | setStrokeTiming => exact leavesQueue_laneRequest handleSetStrokeTiming_pending _ _ _ s
  | setLamp => exact leavesQueue_laneRequest handleSetLamp_pending _ _ _ s
  | keepPhone => exact leavesQueue_laneRequest handleKeepPhone_pending _ _ _ s
  | lineStateChange l shows => exact ⟨_, rfl, s.onLane_pending l _⟩
  | connectDetection l => exact leavesQueue_connectDetection l s
  | disconnectDetection l => exact leavesQueue_disconnectDetection l s
  | portResetEnd l b => exact leavesQueue_portResetEnd l b s
  | enumerationTransferDone l r => exact leavesQueue_enumerationTransferDone l r s
  | attachRetryExpiry l => exact leavesQueue_attachRetryExpiry l s
  | identityTransactionDone l r => exact leavesQueue_identityTransactionDone l r s
  | identityReadTimeout l => exact leavesQueue_identityReadTimeout l s
  | attachTimerExpiry l => exact leavesQueue_attachTimerExpiry l s
  | sendStart l => exact leavesQueue_sendStart l s
  | outTransactionDone l r => exact leavesQueue_outTransactionDone l r s
  | sendTimerExpiry l => exact leavesQueue_sendTimerExpiry l s
  | retryWaitEnd l => exact leavesQueue_retryWaitEnd l s
  | stallClearingDone l r => exact leavesQueue_stallClearingDone l r s
  | stallClearingRetry l => exact leavesQueue_stallClearingRetry l s
  | pollIssue l => exact leavesQueue_pollIssue l s
  | inTransactionDone l r => exact leavesQueue_inTransactionDone l r s
  | pollNakTimeout l => exact leavesQueue_pollNakTimeout l s
  | pollWaitEnd l => exact leavesQueue_pollWaitEnd l s
  | packTimerExpiry l => exact leavesQueue_packTimerExpiry l s
  | sampleEvent l v => exact leavesQueue_sampleEvent l v s
  | startInstant l => exact leavesQueue_startInstant l s
  | stepEnd l => exact leavesQueue_stepEnd l s
  | releaseGapEnd l => exact leavesQueue_releaseGapEnd l s
  | retractEnd l => exact leavesQueue_retractEnd l s
  | nestInputChange l seated => exact ⟨_, rfl, s.onLane_pending l _⟩
  | nestQualificationEnd l => exact leavesQueue_nestQualificationEnd l s
  | activityTimerExpiry l => exact leavesQueue_activityTimerExpiry l s
  | hardResetRelease => exact leavesQueue_hardResetRelease s
  | outDataPacket bytes => exact leavesQueue_outDataPacket bytes s

end Sys2Proof.Machine
end
